-- ==== Sys2Proof/Word.lean ====
section
/-! DEFINITION. The word types of the block: command words, response and register words, and the
16-bit operands (00_scope.md R14). -/

namespace Sys2Proof

/-- A command word: exactly 64 bits (30_encoding.md R61). -/
abbrev CmdWord := BitVec 64

/-- A response data word and a word of the register space: 32 bits (00_scope.md R14, 20_memory.md R45). -/
abbrev Word := BitVec 32

/-- A 16-bit operand or field: an interval, a callback reference, a reload value (00_scope.md R14). -/
abbrev Half := BitVec 16

end Sys2Proof
end

