-- ==== Sys2Proof/Config.lean ====
section
/-! DEFINITION. The timer identifiers, the implementation parameters a model takes as arguments
(00_scope.md section 4), and the two free values that choose the next step where the spec fixes no
order. -/

namespace Sys2Proof

/-- The three timers, ids 0, 1 and 2 (00_scope.md R8). -/
inductive TimerId where
  | t0
  | t1
  | t2
deriving DecidableEq, Repr

/-- One value for each of the three timers. -/
structure PerTimer (α : Type) where
  t0 : α
  t1 : α
  t2 : α
deriving DecidableEq, Repr

/-- The value held for timer `t`. -/
def PerTimer.get {α : Type} (p : PerTimer α) : TimerId → α
  | .t0 => p.t0
  | .t1 => p.t1
  | .t2 => p.t2

/-- `p` with the value of timer `t` replaced: one bank is written, the others stay (10_state.md R35). -/
def PerTimer.set {α : Type} (p : PerTimer α) (t : TimerId) (v : α) : PerTimer α :=
  match t with
  | .t0 => { p with t0 := v }
  | .t1 => { p with t1 := v }
  | .t2 => { p with t2 := v }

/-- The inclusive range `lo .. hi` of interval values in milliseconds. -/
structure LadderRange where
  lo : Nat
  hi : Nat
deriving DecidableEq, Repr

/-- The open parameters of an implementation, fixed before the execution begins (00_scope.md R9, R10,
R12, R13; 70_reset_and_hazards.md R150). They stand in State, where no step writes them, so that a
statement about every state holds for every value of them (DESIGN CHOICE, log 1). -/
structure Config where
  /-- `F_CPU`, the CPU clock frequency in hertz (R9). -/
  fCpu : Word
  /-- `ENABLED`, the timers that are compiled in (R10). -/
  enabled : PerTimer Bool
  /-- `LADDER`, the accepted intervals, as a union of ranges (R12; log 12). -/
  ladder : List LadderRange
  /-- `PWM_TOP(1, Fast)` (R13). -/
  pwmTop1Fast : Half
  /-- `PWM_TOP(1, PhaseCorrect)` (R13). -/
  pwmTop1Phase : Half
deriving DecidableEq, Repr

/-- `t` is in `ENABLED` (R10). -/
def Config.isEnabled (c : Config) (t : TimerId) : Bool := c.enabled.get t

/-- `ms` is in `LADDER` (R12). -/
def Config.ladderHas (c : Config) (ms : Nat) : Bool :=
  c.ladder.any fun r => decide (r.lo ≤ ms) && decide (ms ≤ r.hi)

/-- The constraints the spec puts on the parameters of every model: `0 < F_CPU` (R9), `LADDER` a subset
of 1..65535 (R12), the 16-bit PWM tops in 1..65535 (R13). The upper bounds on `F_CPU` and the tops are
the widths of the fields. -/
def Config.wf (c : Config) : Bool :=
  c.fCpu != 0 && c.pwmTop1Fast != 0 && c.pwmTop1Phase != 0
    && c.ladder.all fun r => decide (1 ≤ r.lo) && decide (r.hi ≤ 65535)

/-- The further constraint on a model of the generic driver: `LADDER` lies in 25..6000 and contains both
ends (R12, R7). -/
def Config.genericDriver (c : Config) : Prop :=
  (∀ ms, c.ladderHas ms = true → 25 ≤ ms ∧ ms ≤ 6000) ∧ c.ladderHas 25 = true ∧ c.ladderHas 6000 = true

/-- The further constraint on a model of the specialised drivers: `LADDER` is 1..65535 (R12, R7). -/
def Config.specialisedDriver (c : Config) : Prop :=
  ∀ ms, c.ladderHas ms = true ↔ 1 ≤ ms ∧ ms ≤ 65535

/-- The parameters the test vectors use (95_test_vectors.md, its opening paragraph). DESIGN CHOICE: the
spec leaves them open and State.reset takes these (log 1). -/
def Config.vectors : Config :=
  { fCpu := 1000000
    enabled := { t0 := true, t1 := true, t2 := true }
    ladder := [{ lo := 1, hi := 65535 }]
    pwmTop1Fast := 1023
    pwmTop1Phase := 1023 }

/-- FREE VALUE: which of the enabled steps the `n`-th free choice takes. The order of enabled steps is
not fixed (20_memory.md R55, 60_exceptions.md R140, 93_implementation_defined.md U9; log 2). -/
opaque Config.freeChoice : Nat → Nat

/-- FREE VALUE: the command word the host offers at the `n`-th free choice; any word may be offered in
any state (30_encoding.md R62; log 2). -/
opaque Config.freeWord : Nat → CmdWord

end Sys2Proof
end

