-- ==== Sys2Proof/Syntax.lean ====
section
/-! DEFINITION. The ten commands of the opcode map, one constructor per row of spec/opcode_table.json
(30_encoding.md R65). An operand is the unsigned value of its field (R67 to R73). An operand value that
a command rejects is still a legal encoding (R75), so the fields carry every value of their width. -/

namespace Sys2Proof

/-- A command (30_encoding.md R64, R65). -/
inductive Instr where
  /-- `TINIT` (40_calibration.md R80). -/
  | tinit
  /-- `TPRESC t, code` (40_calibration.md R81). -/
  | tpresc (t : BitVec 2) (code : BitVec 8)
  /-- `TSETTIME t, mode, ms` (41_decomposition.md R93). -/
  | tsettime (t : BitVec 2) (mode : BitVec 2) (ms : Half)
  /-- `TSETCB t, fn, ctx` (42_callback_registry.md R101). -/
  | tsetcb (t : BitVec 2) (fn : Half) (ctx : Half)
  /-- `TSTART t` (43_run_control.md R105). -/
  | tstart (t : BitVec 2)
  /-- `TSTOP t` (43_run_control.md R106). -/
  | tstop (t : BitVec 2)
  /-- `TPWMF t, pol, percent` (44_pwm.md R113). -/
  | tpwmf (t : BitVec 2) (pol : BitVec 2) (percent : BitVec 8)
  /-- `TPWMP t, pol, percent` (44_pwm.md R114). -/
  | tpwmp (t : BitVec 2) (pol : BitVec 2) (percent : BitVec 8)
  /-- `TIRET` (45_system.md R117). -/
  | tiret
  /-- `TRD t, reg` (45_system.md R118). -/
  | trd (t : BitVec 2) (reg : BitVec 8)
deriving DecidableEq, Repr

end Sys2Proof
end

