-- ==== Sys2Proof/WellFormed.lean ====
section
/-! DEFINITION. Which commands are legal as commands. Every operand field admits every value of its
width (30_encoding.md R75), so the one check is R74 (c): a `TRD` must name a register. -/

namespace Sys2Proof

/-- The pair `(t, r)` names a register: a per-timer index 0x00..0x08 with any `t`, or a global index
0x10, 0x11 with `t = 0` (20_memory.md R46, 30_encoding.md R73). -/
def namesRegister (t : BitVec 2) (r : BitVec 8) : Bool :=
  decide (r.toNat ≤ 0x08) || ((r == 0x10 || r == 0x11) && t == 0)

/-- A legal command: its word is not illegal by 30_encoding.md R74. -/
def Instr.wf : Instr → Bool
  | .tinit => true
  | .tpresc _ _ => true
  | .tsettime _ _ _ => true
  | .tsetcb _ _ _ => true
  | .tstart _ => true
  | .tstop _ => true
  | .tpwmf _ _ _ => true
  | .tpwmp _ _ _ => true
  | .tiret => true
  | .trd t r => namesRegister t r

end Sys2Proof
end

