-- ==== Sys2Proof/Decode.lean ====
section
/-! DEFINITION. The command encoding: the fields of a word (30_encoding.md R63), the opcode map (R65),
the decoder (R66), total on all 2^64 words and rejecting by name (R74), and the encoder written from
the field positions of R63 and the formats of R64. -/

namespace Sys2Proof

/-- The field `op`, bits 63:60 (R63). -/
def opField (w : CmdWord) : BitVec 4 := w.extractLsb' 60 4
/-- The field `t`, bits 59:58 (R63, R67). -/
def tField (w : CmdWord) : BitVec 2 := w.extractLsb' 58 2
/-- The field `m`, bits 57:56 (R63, R68, R72). -/
def mField (w : CmdWord) : BitVec 2 := w.extractLsb' 56 2
/-- The field `a`, bits 55:48 (R63, R69, R72, R73). -/
def aField (w : CmdWord) : BitVec 8 := w.extractLsb' 48 8
/-- The field `z`, bits 47:32, zero in every legal command (R63). -/
def zField (w : CmdWord) : BitVec 16 := w.extractLsb' 32 16
/-- The field `hi`, bits 31:16 (R63, R71). -/
def hiField (w : CmdWord) : Half := w.extractLsb' 16 16
/-- The field `lo`, bits 15:0 (R63, R70, R71). -/
def loField (w : CmdWord) : Half := w.extractLsb' 0 16

/-- The rows of the opcode map. -/
inductive Op where
  | tinit | tpresc | tsettime | tsetcb | tstart | tstop | tpwmf | tpwmp | tiret | trd
deriving DecidableEq, Repr

/-- A row of the opcode map: `w` is the command of the row exactly when `w & mask = pattern` (R65). -/
structure OpRow where
  op : Op
  pattern : CmdWord
  mask : CmdWord
deriving DecidableEq, Repr

/-- The opcode map (R65). -/
def opcodeMap : List OpRow :=
  [ { op := .tinit,    pattern := 0x1000000000000000, mask := 0xFFFFFFFFFFFFFFFF },
    { op := .tpresc,   pattern := 0x2000000000000000, mask := 0xF300FFFFFFFFFFFF },
    { op := .tsettime, pattern := 0x3000000000000000, mask := 0xF0FFFFFFFFFF0000 },
    { op := .tsetcb,   pattern := 0x4000000000000000, mask := 0xF3FFFFFF00000000 },
    { op := .tstart,   pattern := 0x5000000000000000, mask := 0xF3FFFFFFFFFFFFFF },
    { op := .tstop,    pattern := 0x6000000000000000, mask := 0xF3FFFFFFFFFFFFFF },
    { op := .tpwmf,    pattern := 0x7000000000000000, mask := 0xF000FFFFFFFFFFFF },
    { op := .tpwmp,    pattern := 0x8000000000000000, mask := 0xF000FFFFFFFFFFFF },
    { op := .tiret,    pattern := 0x9000000000000000, mask := 0xFFFFFFFFFFFFFFFF },
    { op := .trd,      pattern := 0xA000000000000000, mask := 0xF300FFFFFFFFFFFF } ]

/-- The word `w` is the command of the row (R65). -/
def OpRow.selects (r : OpRow) (w : CmdWord) : Bool := w &&& r.mask == r.pattern

/-- The command of a row with the operands its format names (R64, R66). -/
def instrOf (op : Op) (w : CmdWord) : Instr :=
  match op with
  | .tinit => .tinit
  | .tpresc => .tpresc (tField w) (aField w)
  | .tsettime => .tsettime (tField w) (mField w) (loField w)
  | .tsetcb => .tsetcb (tField w) (hiField w) (loField w)
  | .tstart => .tstart (tField w)
  | .tstop => .tstop (tField w)
  | .tpwmf => .tpwmf (tField w) (mField w) (aField w)
  | .tpwmp => .tpwmp (tField w) (mField w) (aField w)
  | .tiret => .tiret
  | .trd => .trd (tField w) (aField w)

/-- Why a word decodes to no command (R74). -/
inductive DecodeError where
  /-- The opcode is 0x0 or 0xB to 0xF (R74 (a)). -/
  | reservedOpcode (op : BitVec 4)
  /-- The opcode selects a command and a field its format does not use is not zero (R74 (b)). -/
  | nonzeroUnusedField (op : BitVec 4)
deriving DecidableEq, Repr

/-- The name of the rejection of a word no row selects (R74). -/
def rejection (w : CmdWord) : DecodeError :=
  if opField w = 0 ∨ 0xB ≤ (opField w).toNat then .reservedOpcode (opField w)
  else .nonzeroUnusedField (opField w)

/-- The decoder (R66): test each row, take the operands of the row that matches. -/
def decode (w : CmdWord) : Except DecodeError Instr :=
  match opcodeMap.find? fun r => r.selects w with
  | some r => .ok (instrOf r.op w)
  | none => .error (rejection w)

/-- The word with the given field values (R63); the fields from the most significant down. -/
def fieldsWord (op : BitVec 4) (t m : BitVec 2) (a : BitVec 8) (z : BitVec 16) (hi lo : Half) : CmdWord :=
  op ++ t ++ m ++ a ++ z ++ hi ++ lo

/-- The encoder: the fields a format does not use are zero (R63, R64, R65). -/
def encode : Instr → CmdWord
  | .tinit => fieldsWord 0x1 0 0 0 0 0 0
  | .tpresc t code => fieldsWord 0x2 t 0 code 0 0 0
  | .tsettime t mode ms => fieldsWord 0x3 t mode 0 0 0 ms
  | .tsetcb t fn ctx => fieldsWord 0x4 t 0 0 0 fn ctx
  | .tstart t => fieldsWord 0x5 t 0 0 0 0 0
  | .tstop t => fieldsWord 0x6 t 0 0 0 0 0
  | .tpwmf t pol percent => fieldsWord 0x7 t pol percent 0 0 0
  | .tpwmp t pol percent => fieldsWord 0x8 t pol percent 0 0 0
  | .tiret => fieldsWord 0x9 0 0 0 0 0 0
  | .trd t r => fieldsWord 0xA t 0 r 0 0 0

/-- The command word whose low `nbits` bits are those of `w` and whose other bits are 0. -/
def wordOfTable (nbits w : Nat) : CmdWord := BitVec.ofNat 64 (w % 2 ^ nbits)

/-- The instruction the decoder reads from the word numbered as spec/opcode_table.json numbers it. A
command word has exactly 64 bits (R61), so more than 64 bits are no command. -/
def decodeTableWord (nbits w : Nat) : Option Instr :=
  if nbits ≤ 64 then (decode (wordOfTable nbits w)).toOption else none

end Sys2Proof
end

