-- ==== Sys2Proof/Machine/State.lean ====
section
/-! DEFINITION. The state of the block as plain data (10_state.md R15), the statuses and outputs of its
steps, the reasons a step can stop, and the state after reset (R42). -/

namespace Sys2Proof.Machine

/-- A prescaler selection: `presc[t]` (10_state.md R16) and `cs[t]` (R28), by the code table of R18.
Codes 6 and 7 are never stored, so they have no constructor (log 10). -/
inductive Presc where
  /-- Code 0: no divisor selected, the counter is stopped. -/
  | off
  /-- Code 1: divide by 1. -/
  | div1
  /-- Code 2: divide by 8. -/
  | div8
  /-- Code 3: divide by 64. -/
  | div64
  /-- Code 4: divide by 256. -/
  | div256
  /-- Code 5: divide by 1024. -/
  | div1024
deriving DecidableEq, Repr

/-- The interval mode of the record, `mode[t]` (10_state.md R17). -/
inductive Mode where
  | normal
  | ctc
deriving DecidableEq, Repr

/-- The lifecycle state `st[t]` (10_state.md R25). The code 3 is never stored (log 10). -/
inductive Lifecycle where
  | unconfigured
  | configured
  | running
deriving DecidableEq, Repr

/-- The waveform-generation field `wgm[t]` (10_state.md R29). -/
inductive Wgm where
  | normal
  | ctc
  | fastPwm
  | phasePwm
deriving DecidableEq, Repr

/-- The output-compare mode field `com[t]` (10_state.md R30). The code 1 is never stored (log 10). -/
inductive Com where
  | disconnected
  | nonInverting
  | inverting
deriving DecidableEq, Repr

/-- An interrupt source of a timer: overflow or compare match (60_exceptions.md R127). -/
inductive Src where
  | ovf
  | cmp
deriving DecidableEq, Repr

/-- The two PWM variants (00_scope.md R13). -/
inductive PwmVariant where
  | fast
  | phaseCorrect
deriving DecidableEq, Repr

/-- The status codes of a response (60_exceptions.md R122). Codes 8 to 14 are never returned. -/
inductive Status where
  | ok
  | invalidTimer
  | invalidMode
  | invalidInterval
  | nullCallback
  | invalidPrescaler
  | invalidPwmPolarity
  | invalidDutyCycle
  | illegalCommand
deriving DecidableEq, Repr

/-- The three kinds of step (20_memory.md R55). -/
inductive Move where
  /-- `Cmd(w)`: the host issues the word `w` (30_encoding.md R62). -/
  | cmd (w : CmdWord)
  /-- `Tick(t)`: one prescaled clock tick (60_exceptions.md R134). -/
  | tick (t : TimerId)
  /-- `Dispatch(t, src)`: one interrupt is taken (60_exceptions.md R137). -/
  | dispatch (t : TimerId) (src : Src)
deriving DecidableEq, Repr

/-- What leaves the block: the observation of a run (43_run_control.md R104, 10_state.md R41). -/
inductive Output where
  /-- The response `(status, data)` of a command. -/
  | response (status : Status) (data : Word)
  /-- The event `Invoke(t, fn, ctx)` on the callback port (42_callback_registry.md R100). -/
  | invoke (t : TimerId) (fn : Half) (ctx : Half)
deriving DecidableEq, Repr

/-- The state of one timer: record, lifecycle state, hardware registers (10_state.md R15). -/
structure Timer where
  /-- `presc[t]` (R16). -/
  presc : Presc
  /-- `mode[t]` (R17). -/
  mode : Mode
  /-- `ttnum[t]` (R19). -/
  ttnum : BitVec 21
  /-- `preload[t]` (R20). -/
  preload : Half
  /-- `tick_count[t]` (R21). -/
  tickCount : BitVec 32
  /-- `cur_ticks[t]` (R22). -/
  curTicks : BitVec 32
  /-- `cb_fn[t]` (R23). -/
  cbFn : Half
  /-- `cb_ctx[t]` (R23). -/
  cbCtx : Half
  /-- `st[t]` (R25). -/
  st : Lifecycle
  /-- `cnt[t]` (R26), carried in 16 bits for every timer (log 9). -/
  cnt : Half
  /-- `ocr[t]` (R27), carried in 16 bits for every timer (log 9). -/
  ocr : Half
  /-- `cs[t]` (R28). -/
  cs : Presc
  /-- `wgm[t]` (R29). -/
  wgm : Wgm
  /-- `com[t]` (R30). -/
  com : Com
  /-- `ie_ovf[t]` (R31). -/
  ieOvf : Bool
  /-- `ie_cmp[t]` (R31). -/
  ieCmp : Bool
  /-- `pend_ovf[t]` (R32). -/
  pendOvf : Bool
  /-- `pend_cmp[t]` (R32). -/
  pendCmp : Bool
deriving DecidableEq, Repr

/-- The state of the block, and beside it the model's own four fields: the parameters, the offered
steps, the number of free choices taken, and the outputs so far (log 1, 2, 3). -/
structure State where
  /-- The three timers (10_state.md R15). -/
  timers : PerTimer Timer
  /-- `gie` (R38). -/
  gie : Bool
  /-- `init_done` (R39). -/
  initDone : Bool
  /-- `in_service` (R40). -/
  inService : Option (TimerId × Src)
  /-- The parameters (00_scope.md R9 to R13); no step writes them (log 1). -/
  config : Config
  /-- The steps offered to the machine, next first (20_memory.md R55; log 2). -/
  agenda : List Move
  /-- How many free choices have been taken (log 2). -/
  choices : Nat
  /-- The outputs so far, oldest first; no rule reads them (10_state.md R41; log 3). -/
  obs : List Output
deriving DecidableEq, Repr

/-- The faults of the machine: none. A command never traps (60_exceptions.md R123), a tick and a
dispatch raise nothing (R124), and the block has no terminal state (43_run_control.md R104). -/
inductive Fault
deriving DecidableEq, Repr

/-- The reasons the model has no step. -/
inductive Refusal where
  /-- The instruction has no meaning yet; raised by exec's refused arms only. Safe: the machine stops. -/
  | notModelled (mnemonic : String)
  /-- `TPRESC` or `TSETTIME` whose checks pass while the timer's clock runs, which the spec gives no
  meaning (93_implementation_defined.md U1; log 5). Raised by the meanings of these two. Safe. -/
  | configWhileRunning
  /-- A tick of a timer in a PWM mode, which the spec gives no meaning (60_exceptions.md R133,
  93_implementation_defined.md U3; log 6). Raised by the tick. Safe. -/
  | tickInPwmMode
  /-- An offered tick that is not enabled is no step of the machine (60_exceptions.md R134; log 7).
  Raised by the tick. Safe. -/
  | tickNotEnabled
  /-- An offered dispatch that is not enabled is no step of the machine (60_exceptions.md R137; log 7).
  Raised by the dispatch. Safe. -/
  | dispatchNotEnabled
deriving DecidableEq, Repr

/-- A timer after reset: every field zero (10_state.md R42; the hardware registers by the spec's own
decision D33, 70_reset_and_hazards.md R149). -/
def Timer.reset : Timer :=
  { presc := .off, mode := .normal, ttnum := 0, preload := 0, tickCount := 0, curTicks := 0
    cbFn := 0, cbCtx := 0, st := .unconfigured, cnt := 0, ocr := 0, cs := .off, wgm := .normal
    com := .disconnected, ieOvf := false, ieCmp := false, pendOvf := false, pendCmp := false }

/-- The state after reset of an implementation with the parameters `c` (10_state.md R42); nothing is
offered yet and nothing has been output. -/
def State.resetWith (c : Config) : State :=
  { timers := { t0 := Timer.reset, t1 := Timer.reset, t2 := Timer.reset }
    gie := false, initDone := false, inService := none
    config := c, agenda := [], choices := 0, obs := [] }

/-- A model is instantiated with legal parameters only: `F_CPU = 0` is a fatal configuration error at
build time (00_scope.md R9, 40_calibration.md R83; log 19). -/
def State.instantiate (c : Config) : Option State :=
  if c.wf then some (State.resetWith c) else none

/-- The state after reset, with the parameters of the test vectors (10_state.md R42; log 1). -/
def State.reset : State := State.resetWith Config.vectors

end Sys2Proof.Machine
end

