-- ==== Sys2Proof/Machine/Codes.lean ====
section
/-! DEFINITION. The numeric codes of the enumerations (10_state.md R16 to R18, R25, R28 to R30, R40,
60_exceptions.md R122) and the fixed parameters of the three timers (00_scope.md R8, R11, R13). -/

namespace Sys2Proof.Machine

/-- The timer of a 2-bit id; 3 is no timer (30_encoding.md R67). -/
def timerOfCode (t : BitVec 2) : Option TimerId :=
  match t.toNat with
  | 0 => some .t0
  | 1 => some .t1
  | 2 => some .t2
  | _ => none

/-- The 2-bit id of a timer (30_encoding.md R67). -/
def timerCode : TimerId → BitVec 2
  | .t0 => 0
  | .t1 => 1
  | .t2 => 2

/-- The 3-bit code of a prescaler selection (10_state.md R18). -/
def prescCode : Presc → BitVec 3
  | .off => 0
  | .div1 => 1
  | .div8 => 2
  | .div64 => 3
  | .div256 => 4
  | .div1024 => 5

/-- The divisor `DIV` of a selection; undefined for code 0 (10_state.md R18). -/
def divisorOf : Presc → Option Nat
  | .off => none
  | .div1 => some 1
  | .div8 => some 8
  | .div64 => some 64
  | .div256 => some 256
  | .div1024 => some 1024

/-- The code of a mode (10_state.md R17). -/
def modeCode : Mode → BitVec 1
  | .normal => 0
  | .ctc => 1

/-- The code of a lifecycle state (10_state.md R25). -/
def stCode : Lifecycle → BitVec 2
  | .unconfigured => 0
  | .configured => 1
  | .running => 2

/-- The code of a waveform-generation mode (10_state.md R29). -/
def wgmCode : Wgm → BitVec 2
  | .normal => 0
  | .ctc => 1
  | .fastPwm => 2
  | .phasePwm => 3

/-- The code of an output-compare mode (10_state.md R30). -/
def comCode : Com → BitVec 2
  | .disconnected => 0
  | .nonInverting => 2
  | .inverting => 3

/-- The code of an interrupt source (10_state.md R40). -/
def srcCode : Src → BitVec 1
  | .ovf => 0
  | .cmp => 1

/-- The number of a status (60_exceptions.md R122). -/
def statusCode : Status → BitVec 4
  | .ok => 0
  | .invalidTimer => 1
  | .invalidMode => 2
  | .invalidInterval => 3
  | .nullCallback => 4
  | .invalidPrescaler => 5
  | .invalidPwmPolarity => 6
  | .invalidDutyCycle => 7
  | .illegalCommand => 15

/-- A one-bit flag as a bit of a register. -/
def flagBit (b : Bool) : BitVec 1 := BitVec.ofBool b

/-- The counter capacity `CAP(t)` (00_scope.md R8). -/
def cap : TimerId → Nat
  | .t0 => 256
  | .t1 => 65536
  | .t2 => 256

/-- The smallest divisor `DMIN(t)` the compare-match search accepts (00_scope.md R11). -/
def dmin : TimerId → Nat
  | .t0 => 1
  | .t1 => 1
  | .t2 => 2

/-- The timer is wired to a PWM-capable output compare unit: `PWM_CAPABLE` holds 0 and 1 (00_scope.md R13). -/
def pwmCapable : TimerId → Bool
  | .t0 => true
  | .t1 => true
  | .t2 => false

/-- The largest compare value `PWM_TOP(t, v)` of a PWM-capable timer; timer 2 has none (00_scope.md R13). -/
def pwmTop (c : Config) (t : TimerId) (v : PwmVariant) : Option Nat :=
  match t, v with
  | .t0, _ => some 255
  | .t1, .fast => some c.pwmTop1Fast.toNat
  | .t1, .phaseCorrect => some c.pwmTop1Phase.toNat
  | .t2, _ => none

/-- The waveform-generation mode a PWM variant selects (10_state.md R29). -/
def wgmOfVariant : PwmVariant → Wgm
  | .fast => .fastPwm
  | .phaseCorrect => .phasePwm

/-- The waveform-generation mode `TSETTIME` writes: the mode's own code (10_state.md R29). -/
def wgmOfMode : Mode → Wgm
  | .normal => .normal
  | .ctc => .ctc

end Sys2Proof.Machine
end

