-- ==== Sys2Proof/Machine/Flags.lean ====
section
/-! DEFINITION. The flags: interrupt enables, pending flags and the conditions the steps test on them
(10_state.md R31, R32; 60_exceptions.md R128, R129, R134, R137), and the bit primitives of 20_memory.md
R49. -/

namespace Sys2Proof.Machine

/-- The overflow enable a configuration in the mode leaves: overflow-enable XOR compare-match-enable
(10_state.md R31). -/
def ovfEnableOf : Mode → Bool
  | .normal => true
  | .ctc => false

/-- The compare-match enable a configuration in the mode leaves (10_state.md R31). -/
def cmpEnableOf : Mode → Bool
  | .normal => false
  | .ctc => true

/-- The pending flag of a source (60_exceptions.md R129). -/
def pending (r : Timer) : Src → Bool
  | .ovf => r.pendOvf
  | .cmp => r.pendCmp

/-- The interrupt enable of a source (60_exceptions.md R128). -/
def sourceEnabled (r : Timer) : Src → Bool
  | .ovf => r.ieOvf
  | .cmp => r.ieCmp

/-- The prescaled clock reaches the counter: the clock-select field is not 0 (10_state.md R28). -/
def clockRuns (r : Timer) : Bool := r.cs != .off

/-- `Tick(t)` is enabled (60_exceptions.md R134). -/
def tickEnabled (s : State) (t : TimerId) : Bool :=
  s.config.isEnabled t && clockRuns (s.timers.get t)

/-- `Dispatch(t, src)` is enabled (60_exceptions.md R137). -/
def dispatchEnabled (s : State) (t : TimerId) (src : Src) : Bool :=
  s.config.isEnabled t && pending (s.timers.get t) src && sourceEnabled (s.timers.get t) src
    && s.gie && s.inService == none

/-- The primitive `read_register` on an 8-bit register value (20_memory.md R49). -/
def primRead (v : BitVec 8) : BitVec 8 := v

/-- The primitive `write_register` (20_memory.md R49). -/
def primWrite (_v b : BitVec 8) : BitVec 8 := b

/-- The primitive `set_bit` (20_memory.md R49). -/
def primSetBit (v : BitVec 8) (pos : Fin 8) : BitVec 8 := v ||| (1#8 <<< pos.val)

/-- The primitive `clear_bit` (20_memory.md R49). -/
def primClearBit (v : BitVec 8) (pos : Fin 8) : BitVec 8 := v &&& ~~~(1#8 <<< pos.val)

/-- The primitive that tests one bit (20_memory.md R49). `set_field` is not defined (R50). -/
def primTestBit (v : BitVec 8) (pos : Fin 8) : Bool := v.getLsbD pos.val

end Sys2Proof.Machine
end

