-- ==== Sys2Proof/Machine/Operands.lean ====
section
/-! DEFINITION. The operand forms of the commands (30_encoding.md R67 to R73) and the words of the
register space a `TRD` reads (20_memory.md R46, R47). No operand is sign-extended, scaled or shifted. -/

namespace Sys2Proof.Machine

/-- The timer operand: the timer of the id if it is in `ENABLED` (R67). -/
def enabledTimer (c : Config) (t : BitVec 2) : Option TimerId :=
  match timerOfCode t with
  | none => none
  | some id => if c.isEnabled id then some id else none

/-- The timer operand of a PWM command with its top value: enabled and PWM-capable (44_pwm.md R116). -/
def pwmTimer (c : Config) (t : BitVec 2) (v : PwmVariant) : Option (TimerId × Nat) :=
  match enabledTimer c t with
  | none => none
  | some id => (pwmTop c id v).map fun top => (id, top)

/-- The mode operand of `TSETTIME`; 2 and 3 are no mode (R68). -/
def modeOperand (m : BitVec 2) : Option Mode :=
  match m.toNat with
  | 0 => some .normal
  | 1 => some .ctc
  | _ => none

/-- The prescaler operand of `TPRESC`; 0 and 6 to 255 select no divisor (R69). -/
def prescOperand (code : BitVec 8) : Option Presc :=
  match code.toNat with
  | 1 => some .div1
  | 2 => some .div8
  | 3 => some .div64
  | 4 => some .div256
  | 5 => some .div1024
  | _ => none

/-- The duty operand of a PWM command is accepted: 1 to 100 (R72). -/
def percentAccepted (percent : BitVec 8) : Bool :=
  decide (1 ≤ percent.toNat) && decide (percent.toNat ≤ 100)

/-- The polarity operand of a PWM command as the output-compare mode it selects; 2 and 3 are no
polarity (R72, 44_pwm.md R113). -/
def polarityOperand (pol : BitVec 2) : Option Com :=
  match pol.toNat with
  | 0 => some .nonInverting
  | 1 => some .inverting
  | _ => none

/-- The per-timer registers (20_memory.md R46). -/
inductive TimerReg where
  | cfg | preload | tickcnt | curticks | ttnum | callback | cnt | ocr | hwctl
deriving DecidableEq, Repr

/-- The global registers (20_memory.md R46). -/
inductive GlobalReg where
  | gstat | fcpu
deriving DecidableEq, Repr

/-- The per-timer register of an index, 0x00 to 0x08 (20_memory.md R46). -/
def timerRegOfIndex (r : BitVec 8) : Option TimerReg :=
  match r.toNat with
  | 0x00 => some .cfg
  | 0x01 => some .preload
  | 0x02 => some .tickcnt
  | 0x03 => some .curticks
  | 0x04 => some .ttnum
  | 0x05 => some .callback
  | 0x06 => some .cnt
  | 0x07 => some .ocr
  | 0x08 => some .hwctl
  | _ => none

/-- The global register of an index, 0x10 or 0x11 (20_memory.md R46). -/
def globalRegOfIndex (r : BitVec 8) : Option GlobalReg :=
  match r.toNat with
  | 0x10 => some .gstat
  | 0x11 => some .fcpu
  | _ => none

/-- `RegRead` of a per-timer register; bits not listed are 0 (20_memory.md R47). -/
def readTimerReg (r : Timer) : TimerReg → Word
  | .cfg => (0 : BitVec 25) ++ flagBit (r.cbFn != 0) ++ stCode r.st ++ modeCode r.mode ++ prescCode r.presc
  | .preload => r.preload.setWidth 32
  | .tickcnt => r.tickCount
  | .curticks => r.curTicks
  | .ttnum => r.ttnum.setWidth 32
  | .callback => r.cbFn ++ r.cbCtx
  | .cnt => r.cnt.setWidth 32
  | .ocr => r.ocr.setWidth 32
  | .hwctl =>
    (0 : BitVec 21) ++ flagBit r.pendCmp ++ flagBit r.pendOvf ++ flagBit r.ieCmp ++ flagBit r.ieOvf
      ++ comCode r.com ++ wgmCode r.wgm ++ prescCode r.cs

/-- The four bits of `in_service`: source, timer, valid, from the top; all 0 when none (20_memory.md R47). -/
def inServiceBits : Option (TimerId × Src) → BitVec 4
  | none => 0
  | some (t, src) => srcCode src ++ timerCode t ++ (1 : BitVec 1)

/-- `RegRead` of a global register; bits not listed are 0 (20_memory.md R47). -/
def readGlobalReg (s : State) : GlobalReg → Word
  | .gstat => (0 : BitVec 26) ++ inServiceBits s.inService ++ flagBit s.initDone ++ flagBit s.gie
  | .fcpu => s.config.fCpu

end Sys2Proof.Machine
end

