-- ==== Sys2Proof/Machine/Ops.lean ====
section
/-! DEFINITION. The shared operations: writing one timer, giving a response, raising a status
(60_exceptions.md R123, R126), taking an interrupt (R138, R141) and returning from one (R142), and the
arithmetic more than one command uses. -/

namespace Sys2Proof.Machine

/-- `round_half_up(num / den)` (00_scope.md section 6). -/
def roundHalfUp (num den : Nat) : Nat := (2 * num + den) / (2 * den)

/-- Write the state of timer `t`; the other banks are not touched (10_state.md R35). -/
def setTimer (s : State) (t : TimerId) (r : Timer) : State :=
  { s with timers := s.timers.set t r }

/-- Append one output (10_state.md R41). -/
def emit (s : State) (o : Output) : State := { s with obs := s.obs ++ [o] }

/-- `return (Ok, data)`: the command ends with the state it wrote (60_exceptions.md R123). -/
def accept (data : Word) (s : State) : Host.Outcome State Fault Refusal :=
  .next (emit s (.response .ok data))

/-- `raise status`: the command ends at once, writes no state and answers data 0 (60_exceptions.md
R123, R126). The block goes on: a next state (log 13). -/
def raise (status : Status) (s : State) : Host.Outcome State Fault Refusal :=
  .next (emit s (.response status 0))

/-- The registry's `invoke(t)` for a dispatch of the source `src`: with a callback registered, emit the
event and hold the invocation in service; with none, nothing (42_callback_registry.md R100). -/
def invokeCallback (s : State) (t : TimerId) (src : Src) : State :=
  let r := s.timers.get t
  if r.cbFn = 0 then s
  else emit { s with inService := some (t, src) } (.invoke t r.cbFn r.cbCtx)

/-- The soft tick of a dispatch reaches the target: the incremented accumulator equals `tick_count`
(60_exceptions.md R138; the increment is modulo 2^32, 10_state.md R22). -/
def completesInterval (r : Timer) : Bool := r.curTicks + 1 == r.tickCount

/-- The registers of a timer after a dispatch of the source `src`: flag cleared, accumulator advanced or
reset, counter reloaded when an overflow dispatch completes the interval (60_exceptions.md R138). -/
def softTick (r : Timer) (src : Src) : Timer :=
  { r with
    pendOvf := r.pendOvf && src != .ovf
    pendCmp := r.pendCmp && src != .cmp
    curTicks := if completesInterval r then 0 else r.curTicks + 1
    cnt := if completesInterval r && src == .ovf then r.preload else r.cnt }

/-- TAKING AN INTERRUPT, the effect of `Dispatch(t, src)` (60_exceptions.md R138, R139, R141): the soft
tick, and when it completes the interval the callback of the timer. Nothing is saved, `gie` stays. -/
def takeInterrupt (s : State) (t : TimerId) (src : Src) : State :=
  let s' := setTimer s t (softTick (s.timers.get t) src)
  if completesInterval (s.timers.get t) then invokeCallback s' t src else s'

/-- RETURNING FROM AN INTERRUPT: the invocation in service ends, nothing is restored (60_exceptions.md
R142, 45_system.md R117). -/
def returnFromInterrupt (s : State) : State := { s with inService := none }

/-- The step `Dispatch(t, src)`, in the states where it is enabled (60_exceptions.md R137; log 7). -/
def dispatchStep (t : TimerId) (src : Src) (s : State) : Host.Outcome State Fault Refusal :=
  if dispatchEnabled s t src then .next (takeInterrupt s t src) else .refused .dispatchNotEnabled

end Sys2Proof.Machine
end

