-- ==== Sys2Proof/Machine/Counter.lean ====
section
/-! DEFINITION. The hardware counter: the step `Tick(t)` (60_exceptions.md section 3). -/

namespace Sys2Proof.Machine

/-- The next counter value, modulo the capacity of the timer (R131, R132, R135). -/
def nextCount (t : TimerId) (r : Timer) : Half := BitVec.ofNat 16 ((r.cnt.toNat + 1) % cap t)

/-- One tick in Normal mode: count, and an overflow event on reaching 0 (R131). A flag already set stays
set and the event is lost (R130). -/
def normalTick (t : TimerId) (r : Timer) : Timer :=
  { r with
    cnt := nextCount t r
    pendOvf := r.pendOvf || nextCount t r == 0 }

/-- One tick in CTC mode: count, and on reaching the compare value restart at 0 with a compare-match
event (R132). -/
def ctcTick (t : TimerId) (r : Timer) : Timer :=
  { r with
    cnt := if nextCount t r = r.ocr then 0 else nextCount t r
    pendCmp := r.pendCmp || nextCount t r == r.ocr }

/-- The step `Tick(t)`, in the states where it is enabled (R134). In a PWM mode it has no meaning (R133,
93_implementation_defined.md U3; log 6, log 7). -/
def tickStep (t : TimerId) (s : State) : Host.Outcome State Fault Refusal :=
  if tickEnabled s t then
    match (s.timers.get t).wgm with
    | .normal => .next (setTimer s t (normalTick t (s.timers.get t)))
    | .ctc => .next (setTimer s t (ctcTick t (s.timers.get t)))
    | .fastPwm => .refused .tickInPwmMode
    | .phasePwm => .refused .tickInPwmMode
  else .refused .tickNotEnabled

end Sys2Proof.Machine
end

