-- ==== Sys2Proof/Machine/Callback.lean ====
section
/-! DEFINITION. The callback registry's command, `TSETCB` (42_callback_registry.md). The operation
`invoke` is a part of taking an interrupt (Machine/Ops.lean). -/

namespace Sys2Proof.Machine

/-- The registry entry of a timer overwritten, both fields together (R99, R101). -/
def withCallback (r : Timer) (fn ctx : Half) : Timer := { r with cbFn := fn, cbCtx := ctx }

/-- `TSETCB t, fn, ctx` (R101). -/
def execTsetcb (t : BitVec 2) (fn ctx : Half) (s : State) : Host.Outcome State Fault Refusal :=
  match enabledTimer s.config t with
  | none => raise .invalidTimer s
  | some id =>
    if fn = 0 then raise .nullCallback s
    else accept 0 (setTimer s id (withCallback (s.timers.get id) fn ctx))

end Sys2Proof.Machine
end

