-- ==== Sys2Proof/Machine/Calibration.lean ====
section
/-! DEFINITION. The tick-time calibrator and its two commands, `TINIT` and `TPRESC` (40_calibration.md). -/

namespace Sys2Proof.Machine

/-- `calibrate(prescaler_divisor, cpu_frequency_hz)`, the tick time in milliseconds as an exact rational
(40_calibration.md R77, R78). -/
def calibrate (divisor fCpu : Nat) : Rat := ((divisor * 1000 : Nat) : Rat) / (fCpu : Rat)

/-- The stored numerator of the tick time for a prescaler selection: `DIV * 1000`, 0 when no divisor is
selected (10_state.md R19). -/
def ttnumOf (p : Presc) : BitVec 21 :=
  match divisorOf p with
  | none => 0
  | some d => BitVec.ofNat 21 (d * 1000)

/-- The tick time of a timer in milliseconds, `ttnum / F_CPU` (10_state.md R19). -/
def tickTimeMs (s : State) (t : TimerId) : Rat :=
  ((s.timers.get t).ttnum.toNat : Rat) / (s.config.fCpu.toNat : Rat)

/-- The prescaler selection stored and the tick time recomputed (40_calibration.md R81). -/
def withPresc (r : Timer) (p : Presc) : Timer := { r with presc := p, ttnum := ttnumOf p }

/-- The tick time of an enabled timer recomputed (40_calibration.md R80). -/
def recalibrate (c : Config) (t : TimerId) (r : Timer) : Timer :=
  { r with ttnum := if c.isEnabled t then ttnumOf r.presc else r.ttnum }

/-- The writes of `TINIT`: every enabled timer recalibrated, `gie` and `init_done` set (40_calibration.md
R80). -/
def initialise (s : State) : State :=
  { s with
    timers :=
      { t0 := recalibrate s.config .t0 s.timers.t0
        t1 := recalibrate s.config .t1 s.timers.t1
        t2 := recalibrate s.config .t2 s.timers.t2 }
    gie := true
    initDone := true }

/-- `TINIT` (40_calibration.md R80). -/
def execTinit (s : State) : Host.Outcome State Fault Refusal := accept 0 (initialise s)

/-- `TPRESC t, code` (40_calibration.md R81). With its checks passed and the clock running it has no
meaning (R81 corner case 3, 93_implementation_defined.md U1; log 5). -/
def execTpresc (t : BitVec 2) (code : BitVec 8) (s : State) : Host.Outcome State Fault Refusal :=
  match enabledTimer s.config t with
  | none => raise .invalidTimer s
  | some id =>
    match prescOperand code with
    | none => raise .invalidPrescaler s
    | some p =>
      if clockRuns (s.timers.get id) then .refused .configWhileRunning
      else accept 0 (setTimer s id (withPresc (s.timers.get id) p))

end Sys2Proof.Machine
end

