-- ==== Sys2Proof/Machine/Interval.lean ====
section
/-! DEFINITION. The interval decomposer and its command, `TSETTIME` (41_decomposition.md). All of the
arithmetic is exact, on natural numbers (R92). -/

namespace Sys2Proof.Machine

/-- The result of the decomposer: reload or compare value, and number of interrupts (R84). -/
structure Decomposition where
  preload : Nat
  tickCount : Nat
deriving DecidableEq, Repr

/-- `raw_ticks`, the number of hardware ticks in the interval: truncated in Normal mode, rounded half up
in CTC mode (R85). With `ttnum = 0`, which no run reaches, it is 0 (log 17). -/
def rawTicks (mode : Mode) (ms fCpu ttnum : Nat) : Nat :=
  match mode with
  | .normal => (ms * fCpu) / ttnum
  | .ctc => roundHalfUp (ms * fCpu) ttnum

/-- The overflow decomposition of `raw` for a counter of capacity `cap` (R87). -/
def overflowDecomposition (raw cap : Nat) : Decomposition :=
  let remainder := raw % cap
  { preload := (cap - remainder) % cap
    tickCount := raw / cap + if 0 < remainder then 1 else 0 }

/-- The descending divisor search of R89: the first `d`, from the given value down to `dmin`, that
divides `raw`. -/
def divisorSearch (raw dmin : Nat) : Nat → Option Nat
  | 0 => none
  | d + 1 =>
    if d + 1 < dmin then none
    else if raw % (d + 1) = 0 then some (d + 1)
    else divisorSearch raw dmin d

/-- The compare-match decomposition of `raw`: the largest exact divisor in `dmin .. cap - 1`, or the
fallback of R90 (R89, R90). -/
def compareDecomposition (raw cap dmin : Nat) : Decomposition :=
  match divisorSearch raw dmin (cap - 1) with
  | some d => { preload := d, tickCount := raw / d }
  | none => { preload := cap - 1, tickCount := max 1 (roundHalfUp raw (cap - 1)) }

/-- The decomposition of `raw` for a timer in a mode (R87, R89). -/
def decomposition (mode : Mode) (t : TimerId) (raw : Nat) : Decomposition :=
  match mode with
  | .normal => overflowDecomposition raw (cap t)
  | .ctc => compareDecomposition raw (cap t) (dmin t)

/-- The decomposer on a request, none where it rejects it: the interval is 0 or outside `LADDER`, or
`raw_ticks` is 0 or does not fit 32 bits (R86, R93). -/
def decompose (c : Config) (t : TimerId) (mode : Mode) (ttnum ms : Nat) : Option Decomposition :=
  if ms = 0 ∨ c.ladderHas ms = false then none
  else
    let raw := rawTicks mode ms c.fCpu.toNat ttnum
    if raw = 0 ∨ 2 ^ 32 ≤ raw then none else some (decomposition mode t raw)

/-- The writes of a successful `TSETTIME` on its timer: the counter in Normal mode or the compare
register in CTC mode, the enables, the mode fields, the record and the lifecycle (R93, R94). -/
def configured (r : Timer) (mode : Mode) (d : Decomposition) : Timer :=
  { r with
    cnt := if mode = .normal then BitVec.ofNat 16 d.preload else r.cnt
    ocr := if mode = .ctc then BitVec.ofNat 16 d.preload else r.ocr
    ieOvf := ovfEnableOf mode
    ieCmp := cmpEnableOf mode
    mode := mode
    wgm := wgmOfMode mode
    preload := BitVec.ofNat 16 d.preload
    tickCount := BitVec.ofNat 32 d.tickCount
    st := .configured }

/-- `TSETTIME t, mode, ms` (R93). With its checks passed and the clock running it has no meaning (R95,
93_implementation_defined.md U1; log 5). -/
def execTsettime (t mode : BitVec 2) (ms : Half) (s : State) : Host.Outcome State Fault Refusal :=
  match enabledTimer s.config t with
  | none => raise .invalidTimer s
  | some id =>
    match modeOperand mode with
    | none => raise .invalidMode s
    | some md =>
      if (s.timers.get id).presc = .off then raise .invalidPrescaler s
      else
        match decompose s.config id md (s.timers.get id).ttnum.toNat ms.toNat with
        | none => raise .invalidInterval s
        | some d =>
          if clockRuns (s.timers.get id) then .refused .configWhileRunning
          else accept 0 (setTimer s id (configured (s.timers.get id) md d))

end Sys2Proof.Machine
end

