-- ==== Sys2Proof/Machine/Pwm.lean ====
section
/-! DEFINITION. The PWM duty commands, `TPWMF` and `TPWMP` (44_pwm.md). -/

namespace Sys2Proof.Machine

/-- The compare value of a duty in percent for the top value `top` (R112). -/
def pwmCompare (percent top : Nat) : Nat := roundHalfUp (percent * top) 100

/-- The writes of a PWM command on its timer: mode select, output-compare mode, compare register, and
nothing else (R113, R114, R115). -/
def withPwm (r : Timer) (v : PwmVariant) (com : Com) (compare : Nat) : Timer :=
  { r with wgm := wgmOfVariant v, com := com, ocr := BitVec.ofNat 16 compare }

/-- The PWM duty operation of a variant: the three rejections in the order of R116, then the writes. -/
def setDuty (v : PwmVariant) (t pol : BitVec 2) (percent : BitVec 8) (s : State) :
    Host.Outcome State Fault Refusal :=
  match pwmTimer s.config t v with
  | none => raise .invalidTimer s
  | some (id, top) =>
    if percentAccepted percent then
      match polarityOperand pol with
      | none => raise .invalidPwmPolarity s
      | some com =>
        accept 0 (setTimer s id (withPwm (s.timers.get id) v com (pwmCompare percent.toNat top)))
    else raise .invalidDutyCycle s

/-- `TPWMF t, pol, percent` (R113). -/
def execTpwmf (t pol : BitVec 2) (percent : BitVec 8) (s : State) : Host.Outcome State Fault Refusal :=
  setDuty .fast t pol percent s

/-- `TPWMP t, pol, percent` (R114). -/
def execTpwmp (t pol : BitVec 2) (percent : BitVec 8) (s : State) : Host.Outcome State Fault Refusal :=
  setDuty .phaseCorrect t pol percent s

end Sys2Proof.Machine
end

