-- ==== Sys2Proof/Machine/RunControl.lean ====
section
/-! DEFINITION. The commands that gate a timer's clock, `TSTART` and `TSTOP` (43_run_control.md). -/

namespace Sys2Proof.Machine

/-- The clock started: the selection of the record goes to the clock-select field (R105). -/
def started (r : Timer) : Timer := { r with cs := r.presc, st := .running }

/-- The clock stopped: a Running timer is Configured again (R106). -/
def stopped (r : Timer) : Timer :=
  { r with cs := .off, st := if r.st = .running then .configured else r.st }

/-- `TSTART t` (R105). -/
def execTstart (t : BitVec 2) (s : State) : Host.Outcome State Fault Refusal :=
  match enabledTimer s.config t with
  | none => raise .invalidTimer s
  | some id =>
    if (s.timers.get id).st = .unconfigured then raise .invalidPrescaler s
    else accept 0 (setTimer s id (started (s.timers.get id)))

/-- `TSTOP t` (R106). -/
def execTstop (t : BitVec 2) (s : State) : Host.Outcome State Fault Refusal :=
  match enabledTimer s.config t with
  | none => raise .invalidTimer s
  | some id => accept 0 (setTimer s id (stopped (s.timers.get id)))

end Sys2Proof.Machine
end

