-- ==== Sys2Proof/Machine/System.lean ====
section
/-! DEFINITION. The system commands, `TIRET` and `TRD` (45_system.md). -/

namespace Sys2Proof.Machine

/-- `TIRET` (R117). -/
def execTiret (s : State) : Host.Outcome State Fault Refusal :=
  match s.inService with
  | none => raise .illegalCommand s
  | some _ => accept 0 (returnFromInterrupt s)

/-- `TRD t, reg` (R118): no register has a side effect on read (20_memory.md R53). -/
def execTrd (t : BitVec 2) (reg : BitVec 8) (s : State) : Host.Outcome State Fault Refusal :=
  match globalRegOfIndex reg with
  | some g => if t = 0 then accept (readGlobalReg s g) s else raise .illegalCommand s
  | none =>
    match timerRegOfIndex reg with
    | some n =>
      match enabledTimer s.config t with
      | none => raise .invalidTimer s
      | some id => accept (readTimerReg (s.timers.get id) n) s
    | none => raise .illegalCommand s

end Sys2Proof.Machine
end

