-- ==== Sys2Proof/Machine/Dispatch.lean ====
section
/-! DEFINITION. The dispatch from a decoded command to its meaning. -/

namespace Sys2Proof.Machine

def exec (i : Instr) (s : State) : Host.Outcome State Fault Refusal :=
  match i with
  | .tinit => Sys2Proof.Machine.execTinit s
  | .tpresc t code => Sys2Proof.Machine.execTpresc t code s
  | .tsettime t mode ms => Sys2Proof.Machine.execTsettime t mode ms s
  | .tsetcb t fn ctx => Sys2Proof.Machine.execTsetcb t fn ctx s
  | .tstart t => Sys2Proof.Machine.execTstart t s
  | .tstop t => Sys2Proof.Machine.execTstop t s
  | .tpwmf t pol percent => Sys2Proof.Machine.execTpwmf t pol percent s
  | .tpwmp t pol percent => Sys2Proof.Machine.execTpwmp t pol percent s
  | .tiret => Sys2Proof.Machine.execTiret s
  | .trd t reg => Sys2Proof.Machine.execTrd t reg s

end Sys2Proof.Machine
end

