-- ==== Sys2Proof/Machine/Command.lean ====
section
/-! DEFINITION. The three kinds of step on a state (20_memory.md R55), which of them is next (log 2),
and the pseudo-instruction `TRECONF` (30_encoding.md R76). -/

namespace Sys2Proof.Machine

/-- The step `Cmd(w)`: an illegal word answers `(IllegalCommand, 0)` and writes nothing, any other runs
its command (30_encoding.md R62, R74). -/
def commandStep (w : CmdWord) (s : State) : Host.Outcome State Fault Refusal :=
  match decode w with
  | .ok i => exec i s
  | .error _ => raise .illegalCommand s

/-- One step of the given kind. -/
def runMove (m : Move) (s : State) : Host.Outcome State Fault Refusal :=
  match m with
  | .cmd w => commandStep w s
  | .tick t => tickStep t s
  | .dispatch t src => dispatchStep t src s

/-- Every tick and dispatch, of every timer and source. -/
def hardwareMoves : List Move :=
  [ .tick .t0, .tick .t1, .tick .t2,
    .dispatch .t0 .ovf, .dispatch .t0 .cmp, .dispatch .t1 .ovf,
    .dispatch .t1 .cmp, .dispatch .t2 .ovf, .dispatch .t2 .cmp ]

/-- The step is enabled in the state: a command always (30_encoding.md R62), a tick by 60_exceptions.md
R134, a dispatch by R137. -/
def moveEnabled (s : State) : Move → Bool
  | .cmd _ => true
  | .tick t => tickEnabled s t
  | .dispatch t src => dispatchEnabled s t src

/-- The free choice among the enabled steps: any command the host may offer, any enabled tick, any
enabled dispatch (20_memory.md R55, 60_exceptions.md R140; log 2). -/
def freeMove (s : State) : Move :=
  let moves := hardwareMoves.filter (moveEnabled s)
  moves.getD (Config.freeChoice s.choices % (moves.length + 1)) (.cmd (Config.freeWord s.choices))

/-- The step to take next and the state it runs on: the first offered step, or a free choice where none
is offered (log 2). -/
def nextMove (s : State) : Move × State :=
  match s.agenda with
  | m :: rest => (m, { s with agenda := rest })
  | [] => (freeMove s, { s with choices := s.choices + 1 })

/-- Offer a step to be taken before all others. -/
def offer (s : State) (m : Move) : State := { s with agenda := m :: s.agenda }

/-- The commands `TRECONF t, mode, ms` expands to (30_encoding.md R76, 43_run_control.md R107). -/
def treconf (t mode : BitVec 2) (ms : Half) : List Instr := [.tstop t, .tsettime t mode ms, .tstart t]

/-- The status of the last response output. -/
def lastStatus (s : State) : Option Status :=
  match s.obs.getLast? with
  | some (.response st _) => some st
  | _ => none

/-- Issue commands one after the other, ending with the first whose status is not `Ok` (30_encoding.md
R76). -/
def issueAll : List Instr → State → Host.Outcome State Fault Refusal
  | [], s => .next s
  | i :: rest, s =>
    match exec i s with
    | .next s' => if lastStatus s' = some .ok then issueAll rest s' else .next s'
    | .fault f => .fault f
    | .refused r => .refused r

end Sys2Proof.Machine
end

