-- ==== Sys2Proof/Machine/Step.lean ====
section
/-! DEFINITION. One step of the machine, and how a command is placed to be the next step (log 14). -/

namespace Sys2Proof.Machine

/-- One atomic step: the next step of any kind on the state (20_memory.md R55). -/
def step (s : State) : Host.Outcome State Fault Refusal :=
  runMove (nextMove s).1 (nextMove s).2

/-- The state in which the host offers the table word as the very next step (20_memory.md R56; log 14). -/
def State.withFetchWord (s : State) (nbits w : Nat) : State := offer s (.cmd (wordOfTable nbits w))

end Sys2Proof.Machine
end

