-- ==== Sys2Proof/Safety.lean ====
section
/-! DEFINITION. What a good state and a safe run are: the invariant of every reachable state
(10_state.md R24, R33, R40, R43, R44; 43_run_control.md R109; 60_exceptions.md R132), runs, and the two
fairness assumptions a proof may name (70_reset_and_hazards.md R168). -/

namespace Sys2Proof

open Sys2Proof.Machine

/-- The invariant of one timer. -/
structure TimerInv (t : TimerId) (r : Timer) : Prop where
  /-- The tick time is that of the selection (R33 (e), R44). -/
  ttnum_eq : r.ttnum = ttnumOf r.presc
  /-- `preload` fits the counter (R20, R24 (2)). -/
  preload_lt : r.preload.toNat < cap t
  /-- The counter fits its width (R26, R33 (f)). -/
  cnt_lt : r.cnt.toNat < cap t
  /-- The compare register fits its width (R27, R33 (f)). -/
  ocr_lt : r.ocr.toNat < cap t
  /-- The two enables are never both set (R33 (a)). -/
  not_both_enables : ¬ (r.ieOvf = true ∧ r.ieCmp = true)
  /-- The overflow source is enabled in Normal mode only (R33 (b)). -/
  ieOvf_normal : r.ieOvf = true → r.mode = .normal
  /-- The compare-match source is enabled in CTC mode only (R33 (b)). -/
  ieCmp_ctc : r.ieCmp = true → r.mode = .ctc
  /-- An unconfigured timer has no source enabled, a stopped clock and no target (R33 (c), R21). -/
  unconfigured_idle : r.st = .unconfigured →
    r.ieOvf = false ∧ r.ieCmp = false ∧ r.cs = .off ∧ r.tickCount = 0
  /-- The clock runs exactly when the timer is Running (R33 (d)). -/
  clock_iff_running : r.cs ≠ .off ↔ r.st = .running
  /-- A running clock has the divisor of the record (R33 (d), with U1). -/
  running_cs : r.st = .running → r.cs = r.presc
  /-- A configured timer has a divisor (R109). -/
  configured_presc : r.st ≠ .unconfigured → r.presc ≠ .off
  /-- A configured timer has a target of at least 1 (R24 (1)). -/
  configured_target : r.st ≠ .unconfigured → r.tickCount ≠ 0
  /-- A configured timer has exactly the source of its mode enabled (R24 (3), R109). -/
  configured_enable : r.st ≠ .unconfigured →
    (r.mode = .normal → r.ieOvf = true ∧ r.ieCmp = false)
      ∧ (r.mode = .ctc → r.ieOvf = false ∧ r.ieCmp = true)
  /-- Outside the PWM modes the counter runs in the mode of the record (R33 (g)). -/
  wgm_mode : r.wgm = .normal ∨ r.wgm = .ctc → r.wgm = wgmOfMode r.mode
  /-- In CTC mode the compare value is at least 1 (60_exceptions.md R132). -/
  ctc_compare : r.wgm = .ctc → r.ocr ≠ 0

/-- The invariant of the block. -/
structure Inv (s : State) : Prop where
  /-- Every timer meets its invariant. -/
  timers : ∀ t, TimerInv t (s.timers.get t)
  /-- A timer outside `ENABLED` keeps its reset state (R43). -/
  disabled : ∀ t, s.config.isEnabled t = false → s.timers.get t = Timer.reset
  /-- The invocation in service is one of an enabled timer (R40). -/
  inService : ∀ t src, s.inService = some (t, src) → s.config.isEnabled t = true

/-- An unbounded run: each state is the step of the one before (43_run_control.md R104). -/
def IsRun (run : Nat → State) : Prop := ∀ n, step (run n) = .next (run (n + 1))

/-- The step the machine takes from the state. -/
def takes (s : State) (m : Move) : Prop := (nextMove s).1 = m

/-- The first fairness assumption: a tick that stays enabled is eventually taken (R168). An assumption
a proof may name, no rule of the machine. -/
def FairTicks (run : Nat → State) : Prop :=
  ∀ t n, (∀ k, n ≤ k → tickEnabled (run k) t = true) → ∃ k, n ≤ k ∧ takes (run k) (.tick t)

/-- The event a tick of the timer would raise in its mode, and the source it belongs to
(60_exceptions.md R131, R132, R136). -/
def tickEvent (t : TimerId) (r : Timer) : Option Src :=
  match r.wgm with
  | .normal => if nextCount t r = 0 then some .ovf else none
  | .ctc => if nextCount t r = r.ocr then some .cmp else none
  | .fastPwm => none
  | .phasePwm => none

/-- The tick would raise an event whose flag is still set: an overrun (R130). -/
def overruns (s : State) (t : TimerId) : Prop :=
  ∃ src, tickEvent t (s.timers.get t) = some src ∧ pending (s.timers.get t) src = true

/-- Step `n` of the run is a tick that raises an event of the source, whether or not its flag is set. -/
def eventAt (run : Nat → State) (t : TimerId) (src : Src) (n : Nat) : Prop :=
  takes (run n) (.tick t) ∧ tickEvent t ((run n).timers.get t) = some src

/-- The second fairness assumption: a dispatch that is enabled at some step is taken, at that step or
later, before the next event of the same source (R168). It need not stay enabled meanwhile: an
invocation of another source may hold it off, but no event of its own source may come first. An
assumption a proof may name, no rule of the machine (log 16). -/
def FairDispatch (run : Nat → State) : Prop :=
  ∀ t src n, dispatchEnabled (run n) t src = true →
    ∃ j, n ≤ j ∧ takes (run j) (.dispatch t src) ∧ ∀ k, n ≤ k → k < j → ¬ eventAt run t src k

/-- The no-overrun condition of R157 (2) on a whole run: no tick raises an event whose flag is still set,
for whatever reason the dispatch of that flag was held off. R168 speaks of enabled dispatches only, so
this is a condition of its own, for proofs that need exact intervals (log 16). -/
def NoOverruns (run : Nat → State) : Prop :=
  ∀ t n, takes (run n) (.tick t) → ¬ overruns (run n) t

end Sys2Proof
end

