-- ==== Sys2Proof/Certificates/Slice0/Obligations.lean ====
section
/-! DEFINITION. The statements for the provers. The vocabulary (namespace Sys2Proof.Claims) is written
from the spec with numbers and bit positions of its own, so that a statement does not repeat a code
table of the model. -/

namespace Sys2Proof.Claims

open Sys2Proof.Machine

/-- The id of a timer (00_scope.md R8). -/
def timerNumber : TimerId → Nat
  | .t0 => 0
  | .t1 => 1
  | .t2 => 2

/-- The counter capacity of a timer (00_scope.md R8). -/
def capacity : TimerId → Nat
  | .t1 => 65536
  | _ => 256

/-- The smallest divisor of the compare-match search (00_scope.md R11). -/
def minDivisor : TimerId → Nat
  | .t2 => 2
  | _ => 1

/-- The code of a prescaler selection (10_state.md R18). -/
def prescNumber : Presc → Nat
  | .off => 0
  | .div1 => 1
  | .div8 => 2
  | .div64 => 3
  | .div256 => 4
  | .div1024 => 5

/-- The divisor of a code 1..5 (10_state.md R18). -/
def divisorOfCode (code : Nat) : Nat :=
  if code = 1 then 1 else if code = 2 then 8 else if code = 3 then 64 else if code = 4 then 256 else 1024

/-- A bit as a number. -/
def bit (b : Bool) : Nat := if b then 1 else 0

/-- The operand `t` is the id of the enabled timer `id` (30_encoding.md R67). -/
def Names (c : Config) (t : BitVec 2) (id : TimerId) : Prop :=
  t.toNat = timerNumber id ∧ c.enabled.get id = true

/-- The operand `t` names no enabled timer: 3, or an id outside `ENABLED` (30_encoding.md R67). -/
def NamesNone (c : Config) (t : BitVec 2) : Prop := ∀ id, ¬ Names c t id

/-- `ms` is in `LADDER` (00_scope.md R12). -/
def InLadder (c : Config) (ms : Nat) : Prop := ∃ r ∈ c.ladder, r.lo ≤ ms ∧ ms ≤ r.hi

/-- The outcome of a step. -/
abbrev Out := Host.Outcome State Fault Refusal

/-- The state `s` with one response more and nothing else written. -/
def answered (s : State) (status : Status) (data : Word) : State :=
  { s with obs := s.obs ++ [.response status data] }

/-- The command raises the status: the block goes on, no state is written, the data is 0
(60_exceptions.md R123, R126). -/
def Raises (o : Out) (s : State) (status : Status) : Prop := o = .next (answered s status 0)

/-- Everything but the timers and the outputs is unchanged. -/
def GlobalsKept (s s' : State) : Prop :=
  s'.gie = s.gie ∧ s'.initDone = s.initDone ∧ s'.inService = s.inService ∧ s'.config = s.config
    ∧ s'.agenda = s.agenda ∧ s'.choices = s.choices

/-- The command completes: it answers `(Ok, 0)`, the timer `id` is then `r`, every other timer and all
global state are unchanged. -/
def Writes (o : Out) (s : State) (id : TimerId) (r : Timer) : Prop :=
  ∃ s', o = .next s' ∧ s'.timers.get id = r ∧ (∀ u, u ≠ id → s'.timers.get u = s.timers.get u)
    ∧ GlobalsKept s s' ∧ s'.obs = s.obs ++ [.response .ok 0]

/-- The step is a command whose instruction satisfies `p`. -/
def IsCommand (m : Move) (p : Instr → Prop) : Prop := ∃ w i, m = .cmd w ∧ decode w = .ok i ∧ p i

/-- The machine run on exactly the given steps. -/
def offered (s : State) (moves : List Move) : Out :=
  Host.Core.run Sys2Proof.core moves.length ({ s with agenda := moves } : State)

/-- The bits of a register of timer `id` at an index 0x00 to 0x08, as a number: each field at its
position, every other bit 0 (20_memory.md R47). -/
def timerRegisterValue (r : Timer) (index : Nat) : Nat :=
  if index = 0 then
    prescNumber r.presc + 8 * bit (decide (r.mode = .ctc))
      + 16 * (match r.st with | .unconfigured => 0 | .configured => 1 | .running => 2)
      + 64 * bit (decide (r.cbFn ≠ 0))
  else if index = 1 then r.preload.toNat
  else if index = 2 then r.tickCount.toNat
  else if index = 3 then r.curTicks.toNat
  else if index = 4 then r.ttnum.toNat
  else if index = 5 then r.cbFn.toNat * 65536 + r.cbCtx.toNat
  else if index = 6 then r.cnt.toNat
  else if index = 7 then r.ocr.toNat
  else
    prescNumber r.cs
      + 8 * (match r.wgm with | .normal => 0 | .ctc => 1 | .fastPwm => 2 | .phasePwm => 3)
      + 32 * (match r.com with | .disconnected => 0 | .nonInverting => 2 | .inverting => 3)
      + 128 * bit r.ieOvf + 256 * bit r.ieCmp + 512 * bit r.pendOvf + 1024 * bit r.pendCmp

/-- The bits of a global register, as a number (20_memory.md R47). -/
def globalRegisterValue (s : State) (index : Nat) : Nat :=
  if index = 0x10 then
    bit s.gie + 2 * bit s.initDone
      + (match s.inService with
        | none => 0
        | some (t, src) => 4 + 8 * timerNumber t + 32 * bit (decide (src = .cmp)))
  else s.config.fCpu.toNat

/-- The command reads the register: it answers `Ok` with the value and writes no state. -/
def Reads (o : Out) (s : State) (value : Nat) : Prop :=
  ∃ data : Word, data.toNat = value ∧ o = .next (answered s .ok data)

/-- `raw_ticks` of a request (41_decomposition.md R85). -/
def rawOf (m ms fCpu ttnum : Nat) : Nat :=
  if m = 0 then (ms * fCpu) / ttnum else (2 * ms * fCpu + ttnum) / (2 * ttnum)

/-- The interval is rejected: 0, outside `LADDER`, or `raw_ticks` is 0 or 2^32 or more
(41_decomposition.md R86, R93). -/
def IntervalRejected (c : Config) (ms raw : Nat) : Prop :=
  ms = 0 ∨ ¬ InLadder c ms ∨ raw = 0 ∨ 2 ^ 32 ≤ raw

/-- The Normal-mode reload value and target (41_decomposition.md R87). -/
def NormalPair (raw cap p n : Nat) : Prop :=
  p = (cap - raw % cap) % cap ∧ n = if raw % cap = 0 then raw / cap else raw / cap + 1

/-- `d` is an admissible divisor of `raw` (41_decomposition.md R89). -/
def Admissible (raw cap dmin d : Nat) : Prop := dmin ≤ d ∧ d ≤ cap - 1 ∧ raw % d = 0

/-- The CTC-mode compare value and target: the largest admissible divisor, or the fallback where there
is none (41_decomposition.md R89, R90). -/
def CtcPair (raw cap dmin p n : Nat) : Prop :=
  (Admissible raw cap dmin p ∧ (∀ d, Admissible raw cap dmin d → d ≤ p) ∧ n = raw / p)
    ∨ ((∀ d, ¬ Admissible raw cap dmin d) ∧ p = cap - 1
        ∧ n = max 1 ((2 * raw + (cap - 1)) / (2 * (cap - 1))))

/-- The largest compare value of a PWM-capable timer (00_scope.md R13). -/
def dutyTop (c : Config) (id : TimerId) (v : PwmVariant) : Nat :=
  if id = .t0 then 255 else if v = .fast then c.pwmTop1Fast.toNat else c.pwmTop1Phase.toNat

/-- What a PWM command does, for the variant `v` and the waveform mode it selects (44_pwm.md R112 to
R116). -/
def DutyRule (exec : BitVec 2 → BitVec 2 → BitVec 8 → State → Out) (v : PwmVariant) (wgm : Wgm) : Prop :=
  ∀ (s : State) (t pol : BitVec 2) (percent : BitVec 8),
    ((∀ id, Names s.config t id → id = .t2) → Raises (exec t pol percent s) s .invalidTimer)
    ∧ ∀ id, Names s.config t id → id ≠ .t2 →
      (percent.toNat = 0 ∨ 100 < percent.toNat → Raises (exec t pol percent s) s .invalidDutyCycle)
      ∧ (1 ≤ percent.toNat → percent.toNat ≤ 100 →
          (2 ≤ pol.toNat → Raises (exec t pol percent s) s .invalidPwmPolarity)
          ∧ (pol.toNat ≤ 1 →
              Writes (exec t pol percent s) s id
                { s.timers.get id with
                  wgm := wgm
                  com := if pol.toNat = 0 then .nonInverting else .inverting
                  ocr := BitVec.ofNat 16
                    ((2 * percent.toNat * dutyTop s.config id v + 100) / 200) }))

/-- A field the format of an opcode does not use is not zero (30_encoding.md R63, R64): the fields `t`,
`m`, `a`, `z`, `hi`, `lo` by their bit positions. -/
def unusedFieldSet (w : CmdWord) : Prop :=
  let op := w.toNat / 2 ^ 60
  let t := w.toNat / 2 ^ 58 % 4
  let m := w.toNat / 2 ^ 56 % 4
  let a := w.toNat / 2 ^ 48 % 256
  let z := w.toNat / 2 ^ 32 % 65536
  let hi := w.toNat / 2 ^ 16 % 65536
  let lo := w.toNat % 65536
  z ≠ 0
    ∨ ((op = 1 ∨ op = 9) ∧ (t ≠ 0 ∨ m ≠ 0 ∨ a ≠ 0 ∨ hi ≠ 0 ∨ lo ≠ 0))
    ∨ ((op = 5 ∨ op = 6) ∧ (m ≠ 0 ∨ a ≠ 0 ∨ hi ≠ 0 ∨ lo ≠ 0))
    ∨ ((op = 2 ∨ op = 10) ∧ (m ≠ 0 ∨ hi ≠ 0 ∨ lo ≠ 0))
    ∨ (op = 3 ∧ (a ≠ 0 ∨ hi ≠ 0))
    ∨ (op = 4 ∧ (m ≠ 0 ∨ a ≠ 0))
    ∨ ((op = 7 ∨ op = 8) ∧ (hi ≠ 0 ∨ lo ≠ 0))

/-- The word is illegal (30_encoding.md R74 (a), (b), (c)). -/
def IllegalWord (w : CmdWord) : Prop :=
  let op := w.toNat / 2 ^ 60
  let t := w.toNat / 2 ^ 58 % 4
  let a := w.toNat / 2 ^ 48 % 256
  (op = 0 ∨ 11 ≤ op) ∨ unusedFieldSet w
    ∨ (op = 10 ∧ ¬ (a ≤ 8 ∨ ((a = 16 ∨ a = 17) ∧ t = 0)))

/-- What a completed dispatch of the source leaves of its timer (60_exceptions.md R138). -/
def servedTimer (r : Timer) (src : Src) : Timer :=
  { r with
    pendOvf := if src = .ovf then false else r.pendOvf
    pendCmp := if src = .cmp then false else r.pendCmp
    curTicks := if r.curTicks + 1 = r.tickCount then 0 else r.curTicks + 1
    cnt := if r.curTicks + 1 = r.tickCount ∧ src = .ovf then r.preload else r.cnt }

/-- `k` consecutive ticks of a timer. -/
def ticksOf (t : TimerId) (k : Nat) : List Move := List.replicate k (.tick t)

/-- The ticks and dispatches of `n` counter periods, each period `period` ticks and then its dispatch. -/
def periods (t : TimerId) (src : Src) (period n : Nat) : List Move :=
  (List.replicate n (ticksOf t period ++ [.dispatch t src])).flatten

/-- One Normal-mode interval with each dispatch taken before the next tick: the first overflow comes
`first` ticks after the reload, each further one a whole capacity later (60_exceptions.md R145). -/
def normalInterval (t : TimerId) (first n : Nat) : List Move :=
  ticksOf t first ++ [.dispatch t .ovf] ++ periods t .ovf (capacity t) (n - 1)

/-- How many ticks a list of steps holds. -/
def tickTotal (moves : List Move) : Nat :=
  moves.countP fun m => match m with | .tick _ => true | _ => false

/-- A running timer that nothing holds off: its tick and its dispatch can be taken (60_exceptions.md
R134, R137). -/
def Servable (s : State) (t : TimerId) : Prop :=
  s.config.enabled.get t = true ∧ (s.timers.get t).cs ≠ .off ∧ s.gie = true ∧ s.inService = none

/-- The state `s` at the end of an interval of timer `t` that began in `s`: the callback, if one is
registered, has been invoked once and is in service; nothing else differs (60_exceptions.md R145). -/
def intervalEnd (s : State) (t : TimerId) (src : Src) : State :=
  if (s.timers.get t).cbFn = 0 then { s with agenda := [] }
  else
    { s with
      agenda := []
      inService := some (t, src)
      obs := s.obs ++ [.invoke t (s.timers.get t).cbFn (s.timers.get t).cbCtx] }

end Sys2Proof.Claims

open Sys2Proof Sys2Proof.Machine Sys2Proof.Claims

/-! ### Encoding -/

/-- Decoding an encoded command gives it back, with every operand at every value (30_encoding.md R63 to
R66). -/
def Obligations.DecodeOfEncode : Prop := ∀ i : Instr, decode (encode i) = .ok i

/-- Each legal word has one meaning: encoding what it decodes to gives the word back. -/
def Obligations.EncodeOfDecode : Prop := ∀ (w : CmdWord) (i : Instr), decode w = .ok i → encode i = w

/-- The decode algorithm (30_encoding.md R66): at most one row matches a word; if one matches, the command
is that row's, with the fields its format names as operands; if none matches, the word is illegal. -/
def Obligations.AtMostOneRowSelects : Prop :=
  ∀ w : CmdWord,
    (∀ r₁ ∈ opcodeMap, ∀ r₂ ∈ opcodeMap, r₁.selects w = true → r₂.selects w = true → r₁ = r₂)
    ∧ (∀ r ∈ opcodeMap, w &&& r.mask = r.pattern → decode w = .ok (instrOf r.op w))
    ∧ ((∀ r ∈ opcodeMap, w &&& r.mask ≠ r.pattern) → IllegalWord w ∧ ∃ e, decode w = .error e)

/-- A word is illegal by R74 (a), (b) or (c) exactly when it decodes to no legal command, and in every
state an illegal word answers `(IllegalCommand, 0)` and writes no state. -/
def Obligations.IllegalWordsAreRejected : Prop :=
  ∀ w : CmdWord,
    (IllegalWord w ↔ ∀ i, decode w = .ok i → i.wf = false)
    ∧ (IllegalWord w → ∀ s : State, Raises (runMove (.cmd w) s) s .illegalCommand)

/-- Words of the opcode map and of the test vectors decode to the commands they stand for
(30_encoding.md R65; 95_test_vectors.md 2.1 to 2.9). -/
def Obligations.SpecWordsDecode : Prop :=
  decode 0x1000000000000000 = .ok .tinit
  ∧ decode 0x2C05000000000000 = .ok (.tpresc 3 5)
  ∧ decode 0x35000000000003E8 = .ok (.tsettime 1 1 1000)
  ∧ decode 0x400000001234ABCD = .ok (.tsetcb 0 0x1234 0xABCD)
  ∧ decode 0x5800000000000000 = .ok (.tstart 2)
  ∧ decode 0x6000000000000000 = .ok (.tstop 0)
  ∧ decode 0x7164000000000000 = .ok (.tpwmf 0 1 100)
  ∧ decode 0x8419000000000000 = .ok (.tpwmp 1 0 25)
  ∧ decode 0x9000000000000000 = .ok .tiret
  ∧ decode 0xA011000000000000 = .ok (.trd 0 0x11)

/-! ### Steps -/

/-- A step runs what is offered: the first step of the agenda is taken off and run, a command word that
decodes to a command is that command's exec, and a decoded word is never run as anything else
(30_encoding.md R62, 20_memory.md R56; the agenda is the model's own, log 2). -/
def Obligations.StepRunsOfferedStep : Prop :=
  ∀ (s : State) (m : Move) (rest : List Move), s.agenda = m :: rest →
    step s = runMove m { s with agenda := rest }
    ∧ ∀ (w : CmdWord) (i : Instr), m = .cmd w → decode w = .ok i →
        step s = exec i { s with agenda := rest }

/-- With nothing offered the machine takes one of the enabled steps, a command of the host, an enabled
tick or an enabled dispatch, and only the choice counter differs before it (20_memory.md R55; log 2). -/
def Obligations.FreeStepIsEnabled : Prop :=
  ∀ s : State, s.agenda = [] →
    ∃ m, step s = runMove m { s with choices := s.choices + 1 }
      ∧ (∀ t, m = .tick t → s.config.enabled.get t = true ∧ (s.timers.get t).cs ≠ .off)
      ∧ (∀ t src, m = .dispatch t src →
          s.config.enabled.get t = true ∧ s.gie = true ∧ s.inService = none
          ∧ (src = .ovf → (s.timers.get t).pendOvf = true ∧ (s.timers.get t).ieOvf = true)
          ∧ (src = .cmp → (s.timers.get t).pendCmp = true ∧ (s.timers.get t).ieCmp = true))

/-! ### Commands -/

/-- `TINIT` always answers `(Ok, 0)`: every enabled timer's `ttnum` is recomputed from its prescaler,
`gie` and `init_done` are set, and nothing else is written (40_calibration.md R80). -/
def Obligations.TinitRule : Prop :=
  ∀ s : State, ∃ s', exec .tinit s = .next s'
    ∧ (∀ t, s'.timers.get t =
        if s.config.enabled.get t = true then
          { s.timers.get t with
            ttnum := BitVec.ofNat 21
              (if (s.timers.get t).presc = .off then 0
                else divisorOfCode (prescNumber (s.timers.get t).presc) * 1000) }
        else s.timers.get t)
    ∧ s'.gie = true ∧ s'.initDone = true ∧ s'.inService = s.inService ∧ s'.config = s.config
    ∧ s'.agenda = s.agenda ∧ s'.choices = s.choices ∧ s'.obs = s.obs ++ [.response .ok 0]

/-- A `TINIT` right after a `TINIT` writes nothing, whatever the state before the first: it only answers
(40_calibration.md R80 corner cases 1 and 4). -/
def Obligations.TinitIsIdempotent : Prop :=
  ∀ s s' : State, exec .tinit s = .next s' → Raises (exec .tinit s') s' .ok

/-- `TPRESC t, code` (40_calibration.md R81): the rejections in their order, no meaning on a running
timer, and otherwise the selection and the tick time are written and nothing else. -/
def Obligations.TprescRule : Prop :=
  ∀ (s : State) (t : BitVec 2) (code : BitVec 8),
    (NamesNone s.config t → Raises (exec (.tpresc t code) s) s .invalidTimer)
    ∧ ∀ id, Names s.config t id →
      (code.toNat = 0 ∨ 5 < code.toNat → Raises (exec (.tpresc t code) s) s .invalidPrescaler)
      ∧ (1 ≤ code.toNat → code.toNat ≤ 5 →
          ((s.timers.get id).cs ≠ .off → exec (.tpresc t code) s = .refused .configWhileRunning)
          ∧ ((s.timers.get id).cs = .off →
              ∃ p, prescNumber p = code.toNat
                ∧ Writes (exec (.tpresc t code) s) s id
                    { s.timers.get id with
                      presc := p
                      ttnum := BitVec.ofNat 21 (divisorOfCode code.toNat * 1000) }))

/-- `TSETTIME t, mode, ms` (41_decomposition.md R93, R95): the rejections in their order, no meaning on a
running timer once the checks pass, and otherwise the writes of the mode and nothing else (R94), with
the pair that R87 or R89 and R90 give. With `ttnum = 0` beside a divisor, which no run reaches (R33 (e),
InvariantIsKept), `raw` is 0: the model's choice (log 17). -/
def Obligations.TsettimeRule : Prop :=
  ∀ (s : State) (t mode : BitVec 2) (ms : Half),
    (NamesNone s.config t → Raises (exec (.tsettime t mode ms) s) s .invalidTimer)
    ∧ ∀ id, Names s.config t id →
      (2 ≤ mode.toNat → Raises (exec (.tsettime t mode ms) s) s .invalidMode)
      ∧ (mode.toNat ≤ 1 →
          ((s.timers.get id).presc = .off →
            Raises (exec (.tsettime t mode ms) s) s .invalidPrescaler)
          ∧ ((s.timers.get id).presc ≠ .off →
              ∀ raw, raw = rawOf mode.toNat ms.toNat s.config.fCpu.toNat
                  (s.timers.get id).ttnum.toNat →
                (IntervalRejected s.config ms.toNat raw →
                  Raises (exec (.tsettime t mode ms) s) s .invalidInterval)
                ∧ (¬ IntervalRejected s.config ms.toNat raw →
                    ((s.timers.get id).cs ≠ .off →
                      exec (.tsettime t mode ms) s = .refused .configWhileRunning)
                    ∧ ((s.timers.get id).cs = .off →
                        (mode.toNat = 0 → ∃ p n, NormalPair raw (capacity id) p n
                          ∧ Writes (exec (.tsettime t mode ms) s) s id
                              { s.timers.get id with
                                cnt := BitVec.ofNat 16 p
                                ieOvf := true
                                ieCmp := false
                                mode := .normal
                                wgm := .normal
                                preload := BitVec.ofNat 16 p
                                tickCount := BitVec.ofNat 32 n
                                st := .configured })
                        ∧ (mode.toNat = 1 →
                            ∃ p n, CtcPair raw (capacity id) (minDivisor id) p n
                              ∧ Writes (exec (.tsettime t mode ms) s) s id
                                  { s.timers.get id with
                                    ocr := BitVec.ofNat 16 p
                                    ieOvf := false
                                    ieCmp := true
                                    mode := .ctc
                                    wgm := .ctc
                                    preload := BitVec.ofNat 16 p
                                    tickCount := BitVec.ofNat 32 n
                                    st := .configured })))))

/-- `TSETCB t, fn, ctx` (42_callback_registry.md R101, R99). -/
def Obligations.TsetcbRule : Prop :=
  ∀ (s : State) (t : BitVec 2) (fn ctx : Half),
    (NamesNone s.config t → Raises (exec (.tsetcb t fn ctx) s) s .invalidTimer)
    ∧ ∀ id, Names s.config t id →
      (fn = 0 → Raises (exec (.tsetcb t fn ctx) s) s .nullCallback)
      ∧ (fn ≠ 0 →
          Writes (exec (.tsetcb t fn ctx) s) s id { s.timers.get id with cbFn := fn, cbCtx := ctx })

/-- `TSTART t` (43_run_control.md R105). -/
def Obligations.TstartRule : Prop :=
  ∀ (s : State) (t : BitVec 2),
    (NamesNone s.config t → Raises (exec (.tstart t) s) s .invalidTimer)
    ∧ ∀ id, Names s.config t id →
      ((s.timers.get id).st = .unconfigured → Raises (exec (.tstart t) s) s .invalidPrescaler)
      ∧ ((s.timers.get id).st ≠ .unconfigured →
          Writes (exec (.tstart t) s) s id
            { s.timers.get id with cs := (s.timers.get id).presc, st := .running })

/-- `TSTOP t` (43_run_control.md R106): the clock-select field is cleared, Running becomes Configured,
and nothing else is written. -/
def Obligations.TstopRule : Prop :=
  ∀ (s : State) (t : BitVec 2),
    (NamesNone s.config t → Raises (exec (.tstop t) s) s .invalidTimer)
    ∧ ∀ id, Names s.config t id →
      Writes (exec (.tstop t) s) s id
        { s.timers.get id with
          cs := .off
          st := if (s.timers.get id).st = .running then .configured else (s.timers.get id).st }

/-- `TPWMF t, pol, percent` (44_pwm.md R113, R116). -/
def Obligations.TpwmfRule : Prop :=
  DutyRule (fun t pol percent => exec (.tpwmf t pol percent)) .fast .fastPwm

/-- `TPWMP t, pol, percent` (44_pwm.md R114, R116). -/
def Obligations.TpwmpRule : Prop :=
  DutyRule (fun t pol percent => exec (.tpwmp t pol percent)) .phaseCorrect .phasePwm

/-- `TIRET` (45_system.md R117): it ends the invocation in service and writes nothing else; with none it
raises `IllegalCommand`. -/
def Obligations.TiretRule : Prop :=
  ∀ s : State,
    (s.inService = none → Raises (exec .tiret s) s .illegalCommand)
    ∧ (s.inService ≠ none →
        exec .tiret s = .next { s with inService := none, obs := s.obs ++ [.response .ok 0] })

/-- `TRD t, reg` (45_system.md R118) with the register map and layout of 20_memory.md R46 and R47: each
register reads as its fields at their bit positions with every other bit 0, and no read writes state. -/
def Obligations.TrdRule : Prop :=
  ∀ (s : State) (t : BitVec 2) (reg : BitVec 8),
    (reg.toNat = 0x10 ∨ reg.toNat = 0x11 →
      (t ≠ 0 → Raises (exec (.trd t reg) s) s .illegalCommand)
      ∧ (t = 0 → Reads (exec (.trd t reg) s) s (globalRegisterValue s reg.toNat)))
    ∧ (reg.toNat ≤ 8 →
        (NamesNone s.config t → Raises (exec (.trd t reg) s) s .invalidTimer)
        ∧ ∀ id, Names s.config t id →
            Reads (exec (.trd t reg) s) s (timerRegisterValue (s.timers.get id) reg.toNat))
    ∧ (8 < reg.toNat → reg.toNat ≠ 0x10 → reg.toNat ≠ 0x11 →
        Raises (exec (.trd t reg) s) s .illegalCommand)

/-! ### The decomposer and the PWM compare value -/

/-- The rounding of `raw_ticks` (41_decomposition.md R85): Normal mode truncates the exact quotient
`ms * F_CPU / ttnum`, CTC mode takes the nearest integer, an exact half going up. -/
def Obligations.RawTicksRounding : Prop :=
  ∀ ms fCpu ttnum : Nat, 0 < ttnum →
    (rawTicks .normal ms fCpu ttnum * ttnum ≤ ms * fCpu
      ∧ ms * fCpu < (rawTicks .normal ms fCpu ttnum + 1) * ttnum)
    ∧ (2 * ms * fCpu < (2 * rawTicks .ctc ms fCpu ttnum + 1) * ttnum
      ∧ (2 * rawTicks .ctc ms fCpu ttnum) * ttnum ≤ 2 * ms * fCpu + ttnum)

/-- The Normal-mode round trip (41_decomposition.md R88, derived from R87): the reload value fits the
counter, the target is at least 1 and fits 32 bits, and the two give back `raw_ticks` exactly. -/
def Obligations.OverflowRoundTrip : Prop :=
  ∀ (t : TimerId) (raw : Nat), 1 ≤ raw → raw < 2 ^ 32 →
    ∀ d, d = overflowDecomposition raw (cap t) →
      d.preload ≤ capacity t - 1 ∧ 1 ≤ d.tickCount ∧ d.tickCount < 2 ^ 32
        ∧ raw + d.preload = d.tickCount * capacity t
        ∧ raw = (d.tickCount - 1) * capacity t + (capacity t - d.preload)

/-- The CTC-mode result (41_decomposition.md R91, derived from R89 and R90): it is the pair of R89 and
R90, the compare value is between `DMIN` and the capacity less 1, the target between 1 and `raw_ticks`,
an exact divisor gives back `raw_ticks` exactly, and a `raw_ticks` that fits is its own compare value. -/
def Obligations.CompareDecompositionIsLargestDivisor : Prop :=
  ∀ (t : TimerId) (raw : Nat), 1 ≤ raw →
    ∀ d, d = compareDecomposition raw (cap t) (dmin t) →
      CtcPair raw (capacity t) (minDivisor t) d.preload d.tickCount
        ∧ minDivisor t ≤ d.preload ∧ d.preload ≤ capacity t - 1
        ∧ 1 ≤ d.tickCount ∧ d.tickCount ≤ raw
        ∧ ((∃ e, Admissible raw (capacity t) (minDivisor t) e) → d.preload * d.tickCount = raw)
        ∧ (minDivisor t ≤ raw → raw ≤ capacity t - 1 → d.preload = raw ∧ d.tickCount = 1)

/-- The fallback is reachable on timer 2 only, where it is taken exactly when `raw_ticks` has no divisor
in 2..255, and its error is at most 127 ticks from 128 ticks on (41_decomposition.md R90). -/
def Obligations.FallbackOnlyOnTimerTwo : Prop :=
  ∀ raw : Nat, 1 ≤ raw →
    (∀ t, t ≠ .t2 → divisorSearch raw (dmin t) (cap t - 1) ≠ none)
    ∧ (divisorSearch raw (dmin .t2) (cap .t2 - 1) = none ↔ ∀ d, 2 ≤ d → d ≤ 255 → raw % d ≠ 0)
    ∧ (divisorSearch raw (dmin .t2) (cap .t2 - 1) = none → 128 ≤ raw →
        ∀ d, d = compareDecomposition raw (cap .t2) (dmin .t2) →
          d.preload * d.tickCount ≤ raw + 127 ∧ raw ≤ d.preload * d.tickCount + 127)

/-- The PWM compare value (44_pwm.md R112): the nearest integer to `percent * top / 100`, a half going
up; at least 1 when the top is 50 or more, at most the top, and the top itself at 100 percent. -/
def Obligations.DutyCompareRange : Prop :=
  ∀ percent top : Nat, 1 ≤ percent → percent ≤ 100 →
    pwmCompare percent top = (2 * percent * top + 100) / 200
    ∧ (50 ≤ top → 1 ≤ pwmCompare percent top) ∧ pwmCompare percent top ≤ top
    ∧ pwmCompare 100 top = top

/-! ### Ticks and dispatches -/

/-- A tick is a step exactly of an enabled timer whose clock-select field is not 0 (60_exceptions.md
R134); in a PWM mode it has no meaning (R133), and where it is not enabled the model has no step. -/
def Obligations.TickEnabledExactly : Prop :=
  ∀ (s : State) (t : TimerId),
    let on := s.config.enabled.get t = true ∧ (s.timers.get t).cs ≠ .off
    let pwm := (s.timers.get t).wgm = .fastPwm ∨ (s.timers.get t).wgm = .phasePwm
    (¬ on → runMove (.tick t) s = .refused .tickNotEnabled)
    ∧ (on → pwm → runMove (.tick t) s = .refused .tickInPwmMode)
    ∧ (on → ¬ pwm → ∃ s', runMove (.tick t) s = .next s')

/-- Ticks in Normal mode (60_exceptions.md R131). One tick counts modulo the capacity and sets the
overflow flag on reaching 0, whatever the compare register holds; nothing else is written. From a count
`c` that fits, the overflow comes at tick number `capacity - c` and at no earlier one. -/
def Obligations.NormalTickRule : Prop :=
  ∀ (s : State) (t : TimerId), s.config.enabled.get t = true → (s.timers.get t).cs ≠ .off →
    (s.timers.get t).wgm = .normal →
    (∃ c, c = ((s.timers.get t).cnt.toNat + 1) % capacity t
      ∧ ∃ s', runMove (.tick t) s = .next s'
        ∧ s'.timers.get t =
            { s.timers.get t with
              cnt := BitVec.ofNat 16 c
              pendOvf := if c = 0 then true else (s.timers.get t).pendOvf }
        ∧ (∀ u, u ≠ t → s'.timers.get u = s.timers.get u) ∧ GlobalsKept s s' ∧ s'.obs = s.obs)
    ∧ ((s.timers.get t).cnt.toNat < capacity t →
        ∀ k, k ≤ capacity t - (s.timers.get t).cnt.toNat →
          ∃ s', offered s (ticksOf t k) = .next s'
            ∧ (s'.timers.get t).cnt.toNat = ((s.timers.get t).cnt.toNat + k) % capacity t
            ∧ (s'.timers.get t).pendOvf =
                ((s.timers.get t).pendOvf || decide (k = capacity t - (s.timers.get t).cnt.toNat))
            ∧ (s'.timers.get t).pendCmp = (s.timers.get t).pendCmp)

/-- Ticks in CTC mode (60_exceptions.md R132). One tick counts modulo the capacity; reaching the compare
value restarts the count at 0 and sets the compare-match flag; no overflow event is produced; nothing
else is written. -/
def Obligations.CtcTickRule : Prop :=
  ∀ (s : State) (t : TimerId), s.config.enabled.get t = true → (s.timers.get t).cs ≠ .off →
    (s.timers.get t).wgm = .ctc →
    ∃ c, c = ((s.timers.get t).cnt.toNat + 1) % capacity t
      ∧ ∃ s', runMove (.tick t) s = .next s'
        ∧ s'.timers.get t =
            { s.timers.get t with
              cnt := if c = (s.timers.get t).ocr.toNat then 0 else BitVec.ofNat 16 c
              pendCmp := if c = (s.timers.get t).ocr.toNat then true else (s.timers.get t).pendCmp }
        ∧ (∀ u, u ≠ t → s'.timers.get u = s.timers.get u) ∧ GlobalsKept s s' ∧ s'.obs = s.obs

/-- The first compare match (60_exceptions.md R132, 70_reset_and_hazards.md R160): from a count below the
compare value it comes after the difference, from a count at or above it after a wrap without an
overflow event; at no earlier tick, and it leaves the count at 0. -/
def Obligations.FirstCompareMatch : Prop :=
  ∀ (s : State) (t : TimerId) (c d first : Nat), s.config.enabled.get t = true →
    (s.timers.get t).cs ≠ .off → (s.timers.get t).wgm = .ctc →
    c = (s.timers.get t).cnt.toNat → d = (s.timers.get t).ocr.toNat →
    c < capacity t → 1 ≤ d → d < capacity t →
    first = (if c < d then d - c else capacity t - c + d) →
    ∀ k, k ≤ first →
      ∃ s', offered s (ticksOf t k) = .next s'
        ∧ (s'.timers.get t).cnt.toNat = (if k = first then 0 else (c + k) % capacity t)
        ∧ (s'.timers.get t).pendCmp = ((s.timers.get t).pendCmp || decide (k = first))
        ∧ (s'.timers.get t).pendOvf = (s.timers.get t).pendOvf

/-- An event whose flag is still set is lost (60_exceptions.md R130): a tick that raises it leaves the
flags and the accumulator of the timer as they are. -/
def Obligations.OverrunLosesEvent : Prop :=
  ∀ (s s' : State) (t : TimerId), overruns s t → runMove (.tick t) s = .next s' →
    (s'.timers.get t).pendOvf = (s.timers.get t).pendOvf
    ∧ (s'.timers.get t).pendCmp = (s.timers.get t).pendCmp
    ∧ (s'.timers.get t).curTicks = (s.timers.get t).curTicks

/-- A dispatch is a step exactly when the timer is enabled, the source pending and enabled, `gie` set and
no invocation in service (60_exceptions.md R137). That the model refuses one offered where it is not
enabled, by name, is its own choice (log 7). -/
def Obligations.DispatchEnabledExactly : Prop :=
  ∀ (s : State) (t : TimerId) (src : Src),
    let on := s.config.enabled.get t = true ∧ s.gie = true ∧ s.inService = none
      ∧ (src = .ovf → (s.timers.get t).pendOvf = true ∧ (s.timers.get t).ieOvf = true)
      ∧ (src = .cmp → (s.timers.get t).pendCmp = true ∧ (s.timers.get t).ieCmp = true)
    (on → ∃ s', runMove (.dispatch t src) s = .next s')
    ∧ (¬ on → runMove (.dispatch t src) s = .refused .dispatchNotEnabled)

/-- What a dispatch does (60_exceptions.md R138, with the registry's invoke of 42_callback_registry.md
R100): the flag is cleared, the accumulator advances or is reset at the target, an overflow dispatch
that completes the interval reloads the counter, and a completed interval with a callback registered
emits one `Invoke` and puts it in service; nothing else is written. -/
def Obligations.DispatchRule : Prop :=
  ∀ (s s' : State) (t : TimerId) (src : Src), runMove (.dispatch t src) s = .next s' →
    s'.timers.get t = servedTimer (s.timers.get t) src
    ∧ (∀ u, u ≠ t → s'.timers.get u = s.timers.get u)
    ∧ s'.gie = s.gie ∧ s'.initDone = s.initDone ∧ s'.config = s.config ∧ s'.agenda = s.agenda
    ∧ s'.choices = s.choices
    ∧ ((s.timers.get t).curTicks + 1 = (s.timers.get t).tickCount ∧ (s.timers.get t).cbFn ≠ 0 →
        s'.inService = some (t, src)
        ∧ s'.obs = s.obs ++ [.invoke t (s.timers.get t).cbFn (s.timers.get t).cbCtx])
    ∧ ((s.timers.get t).curTicks + 1 ≠ (s.timers.get t).tickCount ∨ (s.timers.get t).cbFn = 0 →
        s'.inService = none ∧ s'.obs = s.obs)

/-- Dispatches never nest (60_exceptions.md R142, 70_reset_and_hazards.md R159): while an invocation is
in service no dispatch is a step, and only `TIRET` ends it. That the model refuses an offered one by name
is its own choice (log 7). -/
def Obligations.DispatchesNeverNest : Prop :=
  ∀ (s : State), s.inService ≠ none →
    (∀ t src, runMove (.dispatch t src) s = .refused .dispatchNotEnabled)
    ∧ ∀ (m : Move) (s' : State), runMove m s = .next s' →
        s'.inService = s.inService ∨ (s'.inService = none ∧ IsCommand m fun i => i = .tiret)

/-- When the soft ticks complete the interval (60_exceptions.md R145, 70_reset_and_hazards.md R155): from
the accumulator `k` with the target `n`, the dispatch number `n - k` completes it when `k < n`, the
dispatch number `2^32 - k + n` when not, and no earlier one does. -/
def Obligations.FirstCompletingDispatch : Prop :=
  ∀ (r : Timer) (src : Src) (k n first : Nat), k = r.curTicks.toNat → n = r.tickCount.toNat →
    1 ≤ n → first = (if k < n then n - k else 2 ^ 32 - k + n) →
    ∀ j, j < first →
      (completesInterval ((fun r => softTick r src)^[j] r) = true ↔ j + 1 = first)
      ∧ ((fun r => softTick r src)^[j] r).curTicks.toNat = (k + j) % 2 ^ 32

/-- One Normal-mode interval takes exactly `tick_count * capacity - preload` ticks when each dispatch is
taken before the next tick (60_exceptions.md R145): the steps hold that many ticks, every proper part of
them outputs nothing, and all of them end where they began, the callback invoked exactly once if one is
registered. -/
def Obligations.NormalIntervalIsExact : Prop :=
  ∀ (s : State) (t : TimerId) (n : Nat), Servable s t → (s.timers.get t).wgm = .normal →
    (s.timers.get t).ieOvf = true → (s.timers.get t).pendOvf = false →
    (s.timers.get t).cnt = (s.timers.get t).preload →
    (s.timers.get t).preload.toNat < capacity t → (s.timers.get t).curTicks = 0 →
    (s.timers.get t).tickCount.toNat = n → 1 ≤ n →
    ∀ moves, moves = normalInterval t (capacity t - (s.timers.get t).preload.toNat) n →
      tickTotal moves + (s.timers.get t).preload.toNat = n * capacity t
      ∧ offered s moves = .next (intervalEnd s t .ovf)
      ∧ ∀ part rest, moves = part ++ rest → rest ≠ [] →
          ∃ s', offered s part = .next s' ∧ s'.obs = s.obs

/-- One CTC-mode interval takes exactly `ocr * tick_count` ticks when each dispatch is taken before the
next tick (60_exceptions.md R145, R132; a `TSETTIME` makes `ocr` the `preload`): the steps hold that many
ticks, every proper part of them outputs nothing, and all of them end where they began, the callback
invoked exactly once if one is registered. -/
def Obligations.CtcIntervalIsExact : Prop :=
  ∀ (s : State) (t : TimerId) (d n : Nat), Servable s t → (s.timers.get t).wgm = .ctc →
    (s.timers.get t).ieCmp = true → (s.timers.get t).pendCmp = false → (s.timers.get t).cnt = 0 →
    (s.timers.get t).ocr.toNat = d → 1 ≤ d → d < capacity t → (s.timers.get t).curTicks = 0 →
    (s.timers.get t).tickCount.toNat = n → 1 ≤ n →
    ∀ moves, moves = periods t .cmp d n →
      tickTotal moves = d * n
      ∧ offered s moves = .next (intervalEnd s t .cmp)
      ∧ ∀ part rest, moves = part ++ rest → rest ≠ [] →
          ∃ s', offered s part = .next s' ∧ s'.obs = s.obs

/-! ### Rules of the whole machine -/

/-- A status other than `Ok` means no state was written (60_exceptions.md R123), the data is then 0
(R126), and every command that is a step gives exactly one response (30_encoding.md R62). -/
def Obligations.ErrorStatusWritesNothing : Prop :=
  ∀ (w : CmdWord) (s s' : State), runMove (.cmd w) s = .next s' →
    ∃ status data, s'.obs = s.obs ++ [.response status data]
      ∧ (status ≠ .ok → data = 0 ∧ s' = answered s status 0)

/-- The field partition (10_state.md R34): each piece of state changes only in the steps that write it,
and `TPRESC` and `TSETTIME` write a timer only while its clock is stopped. -/
def Obligations.OnlyWritersWrite : Prop :=
  ∀ (m : Move) (s s' : State), runMove m s = .next s' →
    (∀ t,
      let r := s.timers.get t
      let r' := s'.timers.get t
      (r'.presc ≠ r.presc → r.cs = .off ∧ IsCommand m fun i => ∃ x c, i = .tpresc x c)
      ∧ (r'.ttnum ≠ r.ttnum → (IsCommand m fun i => i = .tinit)
          ∨ (r.cs = .off ∧ IsCommand m fun i => ∃ x c, i = .tpresc x c))
      ∧ (r'.mode ≠ r.mode ∨ r'.preload ≠ r.preload ∨ r'.tickCount ≠ r.tickCount
          ∨ r'.ieOvf ≠ r.ieOvf ∨ r'.ieCmp ≠ r.ieCmp →
          r.cs = .off ∧ IsCommand m fun i => ∃ x y z, i = .tsettime x y z)
      ∧ (r'.curTicks ≠ r.curTicks → ∃ src, m = .dispatch t src)
      ∧ (r'.cbFn ≠ r.cbFn ∨ r'.cbCtx ≠ r.cbCtx → IsCommand m fun i => ∃ x f c, i = .tsetcb x f c)
      ∧ (r'.st ≠ r.st →
          (r.cs = .off ∧ IsCommand m fun i => ∃ x y z, i = .tsettime x y z)
            ∨ IsCommand m fun i => (∃ x, i = .tstart x) ∨ ∃ x, i = .tstop x)
      ∧ (r'.cnt ≠ r.cnt →
          (r.cs = .off ∧ IsCommand m fun i => ∃ x z, i = .tsettime x 0 z) ∨ m = .tick t
            ∨ (m = .dispatch t .ovf ∧ r.curTicks + 1 = r.tickCount))
      ∧ (r'.ocr ≠ r.ocr →
          (r.cs = .off ∧ IsCommand m fun i => ∃ x z, i = .tsettime x 1 z)
            ∨ IsCommand m fun i => (∃ x y z, i = .tpwmf x y z) ∨ ∃ x y z, i = .tpwmp x y z)
      ∧ (r'.cs ≠ r.cs → IsCommand m fun i => (∃ x, i = .tstart x) ∨ ∃ x, i = .tstop x)
      ∧ (r'.wgm ≠ r.wgm →
          (r.cs = .off ∧ IsCommand m fun i => ∃ x y z, i = .tsettime x y z)
            ∨ IsCommand m fun i => (∃ x y z, i = .tpwmf x y z) ∨ ∃ x y z, i = .tpwmp x y z)
      ∧ (r'.com ≠ r.com → IsCommand m fun i =>
          (∃ x y z, i = .tpwmf x y z) ∨ ∃ x y z, i = .tpwmp x y z)
      ∧ (r'.pendOvf ≠ r.pendOvf →
          (m = .tick t ∧ r'.pendOvf = true) ∨ (m = .dispatch t .ovf ∧ r'.pendOvf = false))
      ∧ (r'.pendCmp ≠ r.pendCmp →
          (m = .tick t ∧ r'.pendCmp = true) ∨ (m = .dispatch t .cmp ∧ r'.pendCmp = false)))
    ∧ (s'.gie ≠ s.gie ∨ s'.initDone ≠ s.initDone → IsCommand m fun i => i = .tinit)
    ∧ (s'.inService ≠ s.inService →
        (s'.inService = none ∧ IsCommand m fun i => i = .tiret)
          ∨ ∃ t src, m = .dispatch t src ∧ s'.inService = some (t, src))

/-- A step that names one timer touches no other, and a tick or a dispatch names its own (60_exceptions.md
R139, 10_state.md R35, 20_memory.md R57). -/
def Obligations.OtherTimersUntouched : Prop :=
  ∀ (m : Move) (s s' : State) (t : TimerId), runMove m s = .next s' →
    s'.timers.get t ≠ s.timers.get t →
      m = .tick t ∨ (∃ src, m = .dispatch t src)
      ∨ IsCommand m fun i => i = .tinit ∨ ∃ x : BitVec 2, x.toNat = timerNumber t
          ∧ ((∃ c, i = .tpresc x c) ∨ (∃ y z, i = .tsettime x y z) ∨ (∃ f c, i = .tsetcb x f c)
            ∨ i = .tstart x ∨ i = .tstop x ∨ (∃ y z, i = .tpwmf x y z) ∨ ∃ y z, i = .tpwmp x y z)

/-- The lifecycle of a timer is that of 43_run_control.md R104: from any state `TSETTIME` to Configured,
from Configured or Running `TSTART` to Running, from Running `TSTOP` to Configured, no other change, and
no way back to Unconfigured. -/
def Obligations.LifecycleTransitions : Prop :=
  ∀ (m : Move) (s s' : State) (t : TimerId), runMove m s = .next s' →
    (s.timers.get t).st = (s'.timers.get t).st
    ∨ ((IsCommand m fun i => ∃ x y z, i = .tsettime x y z) ∧ (s'.timers.get t).st = .configured)
    ∨ ((IsCommand m fun i => ∃ x, i = .tstart x) ∧ (s.timers.get t).st = .configured
        ∧ (s'.timers.get t).st = .running)
    ∨ ((IsCommand m fun i => ∃ x, i = .tstop x) ∧ (s.timers.get t).st = .running
        ∧ (s'.timers.get t).st = .configured)

/-- The global interrupt enable has one writer, which sets it: no step clears it (45_system.md R120,
10_state.md R38). -/
def Obligations.GlobalEnableNeverCleared : Prop :=
  ∀ (s s' : State), step s = .next s' →
    (s.gie = true → s'.gie = true)
    ∧ (s.gie = false → s'.gie = true →
        ∃ m, takes s m ∧ IsCommand m fun i => i = .tinit)

/-- A timer outside `ENABLED` keeps its state in every step (10_state.md R43), and the parameters never
change (70_reset_and_hazards.md R150). -/
def Obligations.DisabledTimersAndParametersKept : Prop :=
  ∀ (s s' : State), step s = .next s' →
    s'.config = s.config
    ∧ ∀ t, s.config.enabled.get t = false → s'.timers.get t = s.timers.get t

/-- Every command but `TIRET`, and `TRD` of the register that shows the context, means the same in
main-line and in interrupt context (45_system.md R121, 60_exceptions.md R144): with another invocation
in service, or none, the outcome differs in that field only. -/
def Obligations.CommandsIgnoreContext : Prop :=
  ∀ (i : Instr) (s : State) (x : Option (TimerId × Src)), i ≠ .tiret → (∀ t, i ≠ .trd t 0x10) →
    exec i { s with inService := x } =
      match exec i s with
      | .next s' => .next { s' with inService := x }
      | .fault f => .fault f
      | .refused r => .refused r

/-- The outputs are not state of the block: no step reads them (10_state.md R41). With other outputs
behind it, a step does the same and appends the same. -/
def Obligations.OutputsAreNeverRead : Prop :=
  ∀ (m : Move) (s : State) (before : List Output),
    runMove m { s with obs := before } =
      match runMove m s with
      | .next s' => .next { s' with obs := before ++ s'.obs.drop s.obs.length }
      | .fault f => .fault f
      | .refused r => .refused r

/-- The sequence of 70_reset_and_hazards.md R151 brings an enabled timer from reset to Running with the
global enable set and its callback registered, every command answering `Ok`, whatever the parameters. -/
def Obligations.InitialisationSequence : Prop :=
  ∀ (c : Config) (t mode : BitVec 2) (id : TimerId) (code : BitVec 8) (ms fn ctx : Half),
    Names c t id → 1 ≤ code.toNat → code.toNat ≤ 5 → mode.toNat ≤ 1 → fn ≠ 0 →
    ¬ IntervalRejected c ms.toNat
        (rawOf mode.toNat ms.toNat c.fCpu.toNat (divisorOfCode code.toNat * 1000)) →
    ∃ s', offered (State.resetWith c)
        [.cmd (encode (.tpresc t code)), .cmd (encode .tinit), .cmd (encode (.tsetcb t fn ctx)),
         .cmd (encode (.tsettime t mode ms)), .cmd (encode (.tstart t))] = .next s'
      ∧ s'.obs = List.replicate 5 (.response .ok 0)
      ∧ s'.gie = true ∧ s'.initDone = true ∧ s'.inService = none
      ∧ (s'.timers.get id).st = .running ∧ prescNumber (s'.timers.get id).cs = code.toNat
      ∧ (s'.timers.get id).cbFn = fn ∧ (s'.timers.get id).cbCtx = ctx
      ∧ (s'.timers.get id).tickCount ≠ 0
      ∧ ((s'.timers.get id).ieOvf = true ↔ mode.toNat = 0)
      ∧ ((s'.timers.get id).ieCmp = true ↔ mode.toNat = 1)

/-- The re-configuration of a running timer (43_run_control.md R107, the pseudo-instruction `TRECONF` of
30_encoding.md R76): three `Ok` responses, and the timer runs again at its divisor with the new pair (of
41_decomposition.md R87, or of R89 and R90), the new mode and that mode's source enabled. Everything else
is as it was, the accumulator and the pending flags among it (70_reset_and_hazards.md R155, R156), and
the mode's unused register. -/
def Obligations.ReconfigurationSequence : Prop :=
  ∀ (s : State) (t mode : BitVec 2) (id : TimerId) (ms : Half) (raw : Nat),
    Names s.config t id → mode.toNat ≤ 1 → (s.timers.get id).presc ≠ .off →
    raw = rawOf mode.toNat ms.toNat s.config.fCpu.toNat (s.timers.get id).ttnum.toNat →
    ¬ IntervalRejected s.config ms.toNat raw →
    ∃ s', issueAll (treconf t mode ms) s = .next s'
      ∧ s'.obs = s.obs ++ List.replicate 3 (.response .ok 0)
      ∧ GlobalsKept s s' ∧ (∀ u, u ≠ id → s'.timers.get u = s.timers.get u)
      ∧ (mode.toNat = 0 → ∃ p n, NormalPair raw (capacity id) p n
          ∧ s'.timers.get id =
              { s.timers.get id with
                cs := (s.timers.get id).presc
                st := .running
                cnt := BitVec.ofNat 16 p
                ieOvf := true
                ieCmp := false
                mode := .normal
                wgm := .normal
                preload := BitVec.ofNat 16 p
                tickCount := BitVec.ofNat 32 n })
      ∧ (mode.toNat = 1 → ∃ p n, CtcPair raw (capacity id) (minDivisor id) p n
          ∧ s'.timers.get id =
              { s.timers.get id with
                cs := (s.timers.get id).presc
                st := .running
                ocr := BitVec.ofNat 16 p
                ieOvf := false
                ieCmp := true
                mode := .ctc
                wgm := .ctc
                preload := BitVec.ofNat 16 p
                tickCount := BitVec.ofNat 32 n })

/-! ### Invariant and reset -/

/-- The invariants of the record and of the hardware registers hold after every step (10_state.md R24,
R33, R40, R43, R44; 43_run_control.md R109; derived in the spec from its other rules). -/
def Obligations.InvariantIsKept : Prop :=
  ∀ s s' : State, Inv s → step s = .next s' → Inv s'

/-- The invariant holds after reset, whatever the parameters. -/
def Obligations.InvariantAtReset : Prop :=
  ∀ c : Config, Inv (State.resetWith c)

/-- In every state the only reasons to stop are these four: never a fault, never an instruction without a
meaning, and a command stops only as `TPRESC` or `TSETTIME` of a timer whose clock runs
(93_implementation_defined.md U1); an enabled tick only in a PWM mode (U3), any other tick only where
60_exceptions.md R134 does not enable it, a dispatch only where R137 does not enable it. That the model
refuses a step offered where it is not enabled is its own choice (log 7). -/
def Obligations.StopsOnlyWhereNoMeaning : Prop :=
  ∀ (m : Move) (s : State),
    (∃ s', runMove m s = .next s')
    ∨ (runMove m s = .refused .configWhileRunning ∧ ∃ t, (s.timers.get t).cs ≠ .off
        ∧ IsCommand m fun i => ∃ x : BitVec 2, x.toNat = timerNumber t
            ∧ ((∃ c, i = .tpresc x c) ∨ ∃ y z, i = .tsettime x y z))
    ∨ (runMove m s = .refused .tickInPwmMode ∧ ∃ t, m = .tick t
        ∧ s.config.enabled.get t = true ∧ (s.timers.get t).cs ≠ .off
        ∧ ((s.timers.get t).wgm = .fastPwm ∨ (s.timers.get t).wgm = .phasePwm))
    ∨ (runMove m s = .refused .tickNotEnabled ∧ ∃ t, m = .tick t
        ∧ (s.config.enabled.get t = false ∨ (s.timers.get t).cs = .off))
    ∨ (runMove m s = .refused .dispatchNotEnabled ∧ ∃ t src, m = .dispatch t src
        ∧ ¬ (s.config.enabled.get t = true ∧ s.gie = true ∧ s.inService = none
          ∧ (src = .ovf → (s.timers.get t).pendOvf = true ∧ (s.timers.get t).ieOvf = true)
          ∧ (src = .cmp → (s.timers.get t).pendCmp = true ∧ (s.timers.get t).ieCmp = true)))

/-- After reset every field of every timer and of the global state is zero, and no invocation is in
service (10_state.md R42; for the hardware registers and the globals this is the spec's own decision,
D33). -/
def Obligations.ResetIsZero : Prop :=
  ∀ c : Config,
    (∀ t, (State.resetWith c).timers.get t =
      { presc := .off, mode := .normal, ttnum := 0, preload := 0, tickCount := 0, curTicks := 0
        cbFn := 0, cbCtx := 0, st := .unconfigured, cnt := 0, ocr := 0, cs := .off, wgm := .normal
        com := .disconnected, ieOvf := false, ieCmp := false, pendOvf := false, pendCmp := false })
    ∧ (State.resetWith c).gie = false ∧ (State.resetWith c).initDone = false
    ∧ (State.resetWith c).inService = none

/-- No model is instantiated with `F_CPU = 0` (00_scope.md R9, 40_calibration.md R83), and with legal
parameters the instance is the reset state with them. -/
def Obligations.ZeroFrequencyIsRefused : Prop :=
  ∀ c : Config,
    (c.fCpu = 0 → State.instantiate c = none)
    ∧ (c.wf = true → State.instantiate c = some (State.resetWith c) ∧ 0 < c.fCpu.toNat
        ∧ c.fCpu.toNat < 2 ^ 32)

/-- `raw_ticks` ticks against the requested `ms` milliseconds, as exact rationals of the calibrator of
40_calibration.md R77 (41_decomposition.md R97): in Normal mode at most `ms` and short of it by less than
one tick, in CTC mode within half a tick of it, above by at most half and below by less than half. -/
def Obligations.IntervalLengthInMilliseconds : Prop :=
  ∀ (divisor fCpu ms : Nat), 0 < divisor → 0 < fCpu →
    (rawTicks .normal ms fCpu (divisor * 1000) : Rat) * calibrate divisor fCpu ≤ ms
    ∧ (ms : Rat) - calibrate divisor fCpu
        < (rawTicks .normal ms fCpu (divisor * 1000) : Rat) * calibrate divisor fCpu
    ∧ (rawTicks .ctc ms fCpu (divisor * 1000) : Rat) * calibrate divisor fCpu
        ≤ ms + calibrate divisor fCpu / 2
    ∧ (ms : Rat) - calibrate divisor fCpu / 2
        < (rawTicks .ctc ms fCpu (divisor * 1000) : Rat) * calibrate divisor fCpu
end

