-- ==== Sys2Proof/Laws/State.lean ====
section
/-! SUPPORT. Reading a field after an update: one lemma per field per update of a timer or of the state,
so that no proof unfolds a record update. -/

namespace Sys2Proof.Machine

/-! ### Banks of timers -/

@[simp] theorem get_set_same {α : Type} (p : PerTimer α) (t : TimerId) (v : α) : (p.set t v).get t = v := by
  cases t <;> rfl

@[simp] theorem get_set_other {α : Type} (p : PerTimer α) {t u : TimerId} (v : α) (h : u ≠ t) :
    (p.set t v).get u = p.get u := by
  cases t <;> cases u <;> first | rfl | exact absurd rfl h

theorem get_set {α : Type} (p : PerTimer α) (t u : TimerId) (v : α) :
    (p.set t v).get u = if u = t then v else p.get u := by
  cases t <;> cases u <;> rfl

theorem perTimer_ext {α : Type} {p q : PerTimer α} (h : ∀ t, p.get t = q.get t) : p = q := by
  obtain ⟨a, b, c⟩ := p
  obtain ⟨x, y, z⟩ := q
  exact congr (congr (congrArg PerTimer.mk (h .t0)) (h .t1)) (h .t2)

@[simp] theorem set_get_self {α : Type} (p : PerTimer α) (t : TimerId) : p.set t (p.get t) = p := by
  cases t <;> rfl

@[simp] theorem set_set_same {α : Type} (p : PerTimer α) (t : TimerId) (v w : α) :
    (p.set t v).set t w = p.set t w := by
  cases t <;> rfl

/-! ### Updates of a timer -/

@[simp] theorem withPresc_presc (r : Timer) (p : Presc) : (withPresc r p).presc = p := rfl
@[simp] theorem withPresc_mode (r : Timer) (p : Presc) : (withPresc r p).mode = r.mode := rfl
@[simp] theorem withPresc_ttnum (r : Timer) (p : Presc) : (withPresc r p).ttnum = ttnumOf p := rfl
@[simp] theorem withPresc_preload (r : Timer) (p : Presc) : (withPresc r p).preload = r.preload := rfl
@[simp] theorem withPresc_tickCount (r : Timer) (p : Presc) : (withPresc r p).tickCount = r.tickCount := rfl
@[simp] theorem withPresc_curTicks (r : Timer) (p : Presc) : (withPresc r p).curTicks = r.curTicks := rfl
@[simp] theorem withPresc_cbFn (r : Timer) (p : Presc) : (withPresc r p).cbFn = r.cbFn := rfl
@[simp] theorem withPresc_cbCtx (r : Timer) (p : Presc) : (withPresc r p).cbCtx = r.cbCtx := rfl
@[simp] theorem withPresc_st (r : Timer) (p : Presc) : (withPresc r p).st = r.st := rfl
@[simp] theorem withPresc_cnt (r : Timer) (p : Presc) : (withPresc r p).cnt = r.cnt := rfl
@[simp] theorem withPresc_ocr (r : Timer) (p : Presc) : (withPresc r p).ocr = r.ocr := rfl
@[simp] theorem withPresc_cs (r : Timer) (p : Presc) : (withPresc r p).cs = r.cs := rfl
@[simp] theorem withPresc_wgm (r : Timer) (p : Presc) : (withPresc r p).wgm = r.wgm := rfl
@[simp] theorem withPresc_com (r : Timer) (p : Presc) : (withPresc r p).com = r.com := rfl
@[simp] theorem withPresc_ieOvf (r : Timer) (p : Presc) : (withPresc r p).ieOvf = r.ieOvf := rfl
@[simp] theorem withPresc_ieCmp (r : Timer) (p : Presc) : (withPresc r p).ieCmp = r.ieCmp := rfl
@[simp] theorem withPresc_pendOvf (r : Timer) (p : Presc) : (withPresc r p).pendOvf = r.pendOvf := rfl
@[simp] theorem withPresc_pendCmp (r : Timer) (p : Presc) : (withPresc r p).pendCmp = r.pendCmp := rfl

@[simp] theorem recalibrate_presc (c : Config) (t : TimerId) (r : Timer) :
    (recalibrate c t r).presc = r.presc := rfl
@[simp] theorem recalibrate_mode (c : Config) (t : TimerId) (r : Timer) :
    (recalibrate c t r).mode = r.mode := rfl
@[simp] theorem recalibrate_ttnum (c : Config) (t : TimerId) (r : Timer) :
    (recalibrate c t r).ttnum = if c.isEnabled t then ttnumOf r.presc else r.ttnum := rfl
@[simp] theorem recalibrate_preload (c : Config) (t : TimerId) (r : Timer) :
    (recalibrate c t r).preload = r.preload := rfl
@[simp] theorem recalibrate_tickCount (c : Config) (t : TimerId) (r : Timer) :
    (recalibrate c t r).tickCount = r.tickCount := rfl
@[simp] theorem recalibrate_curTicks (c : Config) (t : TimerId) (r : Timer) :
    (recalibrate c t r).curTicks = r.curTicks := rfl
@[simp] theorem recalibrate_cbFn (c : Config) (t : TimerId) (r : Timer) :
    (recalibrate c t r).cbFn = r.cbFn := rfl
@[simp] theorem recalibrate_cbCtx (c : Config) (t : TimerId) (r : Timer) :
    (recalibrate c t r).cbCtx = r.cbCtx := rfl
@[simp] theorem recalibrate_st (c : Config) (t : TimerId) (r : Timer) : (recalibrate c t r).st = r.st := rfl
@[simp] theorem recalibrate_cnt (c : Config) (t : TimerId) (r : Timer) :
    (recalibrate c t r).cnt = r.cnt := rfl
@[simp] theorem recalibrate_ocr (c : Config) (t : TimerId) (r : Timer) :
    (recalibrate c t r).ocr = r.ocr := rfl
@[simp] theorem recalibrate_cs (c : Config) (t : TimerId) (r : Timer) : (recalibrate c t r).cs = r.cs := rfl
@[simp] theorem recalibrate_wgm (c : Config) (t : TimerId) (r : Timer) :
    (recalibrate c t r).wgm = r.wgm := rfl
@[simp] theorem recalibrate_com (c : Config) (t : TimerId) (r : Timer) :
    (recalibrate c t r).com = r.com := rfl
@[simp] theorem recalibrate_ieOvf (c : Config) (t : TimerId) (r : Timer) :
    (recalibrate c t r).ieOvf = r.ieOvf := rfl
@[simp] theorem recalibrate_ieCmp (c : Config) (t : TimerId) (r : Timer) :
    (recalibrate c t r).ieCmp = r.ieCmp := rfl
@[simp] theorem recalibrate_pendOvf (c : Config) (t : TimerId) (r : Timer) :
    (recalibrate c t r).pendOvf = r.pendOvf := rfl
@[simp] theorem recalibrate_pendCmp (c : Config) (t : TimerId) (r : Timer) :
    (recalibrate c t r).pendCmp = r.pendCmp := rfl

@[simp] theorem configured_presc (r : Timer) (m : Mode) (d : Decomposition) :
    (configured r m d).presc = r.presc := rfl
@[simp] theorem configured_mode (r : Timer) (m : Mode) (d : Decomposition) :
    (configured r m d).mode = m := rfl
@[simp] theorem configured_ttnum (r : Timer) (m : Mode) (d : Decomposition) :
    (configured r m d).ttnum = r.ttnum := rfl
@[simp] theorem configured_preload (r : Timer) (m : Mode) (d : Decomposition) :
    (configured r m d).preload = BitVec.ofNat 16 d.preload := rfl
@[simp] theorem configured_tickCount (r : Timer) (m : Mode) (d : Decomposition) :
    (configured r m d).tickCount = BitVec.ofNat 32 d.tickCount := rfl
@[simp] theorem configured_curTicks (r : Timer) (m : Mode) (d : Decomposition) :
    (configured r m d).curTicks = r.curTicks := rfl
@[simp] theorem configured_cbFn (r : Timer) (m : Mode) (d : Decomposition) :
    (configured r m d).cbFn = r.cbFn := rfl
@[simp] theorem configured_cbCtx (r : Timer) (m : Mode) (d : Decomposition) :
    (configured r m d).cbCtx = r.cbCtx := rfl
@[simp] theorem configured_st (r : Timer) (m : Mode) (d : Decomposition) :
    (configured r m d).st = .configured := rfl
@[simp] theorem configured_cnt (r : Timer) (m : Mode) (d : Decomposition) :
    (configured r m d).cnt = if m = .normal then BitVec.ofNat 16 d.preload else r.cnt := rfl
@[simp] theorem configured_ocr (r : Timer) (m : Mode) (d : Decomposition) :
    (configured r m d).ocr = if m = .ctc then BitVec.ofNat 16 d.preload else r.ocr := rfl
@[simp] theorem configured_cs (r : Timer) (m : Mode) (d : Decomposition) : (configured r m d).cs = r.cs := rfl
@[simp] theorem configured_wgm (r : Timer) (m : Mode) (d : Decomposition) :
    (configured r m d).wgm = wgmOfMode m := rfl
@[simp] theorem configured_com (r : Timer) (m : Mode) (d : Decomposition) :
    (configured r m d).com = r.com := rfl
@[simp] theorem configured_ieOvf (r : Timer) (m : Mode) (d : Decomposition) :
    (configured r m d).ieOvf = ovfEnableOf m := rfl
@[simp] theorem configured_ieCmp (r : Timer) (m : Mode) (d : Decomposition) :
    (configured r m d).ieCmp = cmpEnableOf m := rfl
@[simp] theorem configured_pendOvf (r : Timer) (m : Mode) (d : Decomposition) :
    (configured r m d).pendOvf = r.pendOvf := rfl
@[simp] theorem configured_pendCmp (r : Timer) (m : Mode) (d : Decomposition) :
    (configured r m d).pendCmp = r.pendCmp := rfl

@[simp] theorem withCallback_presc (r : Timer) (fn ctx : Half) :
    (withCallback r fn ctx).presc = r.presc := rfl
@[simp] theorem withCallback_mode (r : Timer) (fn ctx : Half) : (withCallback r fn ctx).mode = r.mode := rfl
@[simp] theorem withCallback_ttnum (r : Timer) (fn ctx : Half) :
    (withCallback r fn ctx).ttnum = r.ttnum := rfl
@[simp] theorem withCallback_preload (r : Timer) (fn ctx : Half) :
    (withCallback r fn ctx).preload = r.preload := rfl
@[simp] theorem withCallback_tickCount (r : Timer) (fn ctx : Half) :
    (withCallback r fn ctx).tickCount = r.tickCount := rfl
@[simp] theorem withCallback_curTicks (r : Timer) (fn ctx : Half) :
    (withCallback r fn ctx).curTicks = r.curTicks := rfl
@[simp] theorem withCallback_cbFn (r : Timer) (fn ctx : Half) : (withCallback r fn ctx).cbFn = fn := rfl
@[simp] theorem withCallback_cbCtx (r : Timer) (fn ctx : Half) : (withCallback r fn ctx).cbCtx = ctx := rfl
@[simp] theorem withCallback_st (r : Timer) (fn ctx : Half) : (withCallback r fn ctx).st = r.st := rfl
@[simp] theorem withCallback_cnt (r : Timer) (fn ctx : Half) : (withCallback r fn ctx).cnt = r.cnt := rfl
@[simp] theorem withCallback_ocr (r : Timer) (fn ctx : Half) : (withCallback r fn ctx).ocr = r.ocr := rfl
@[simp] theorem withCallback_cs (r : Timer) (fn ctx : Half) : (withCallback r fn ctx).cs = r.cs := rfl
@[simp] theorem withCallback_wgm (r : Timer) (fn ctx : Half) : (withCallback r fn ctx).wgm = r.wgm := rfl
@[simp] theorem withCallback_com (r : Timer) (fn ctx : Half) : (withCallback r fn ctx).com = r.com := rfl
@[simp] theorem withCallback_ieOvf (r : Timer) (fn ctx : Half) :
    (withCallback r fn ctx).ieOvf = r.ieOvf := rfl
@[simp] theorem withCallback_ieCmp (r : Timer) (fn ctx : Half) :
    (withCallback r fn ctx).ieCmp = r.ieCmp := rfl
@[simp] theorem withCallback_pendOvf (r : Timer) (fn ctx : Half) :
    (withCallback r fn ctx).pendOvf = r.pendOvf := rfl
@[simp] theorem withCallback_pendCmp (r : Timer) (fn ctx : Half) :
    (withCallback r fn ctx).pendCmp = r.pendCmp := rfl

@[simp] theorem started_presc (r : Timer) : (started r).presc = r.presc := rfl
@[simp] theorem started_mode (r : Timer) : (started r).mode = r.mode := rfl
@[simp] theorem started_ttnum (r : Timer) : (started r).ttnum = r.ttnum := rfl
@[simp] theorem started_preload (r : Timer) : (started r).preload = r.preload := rfl
@[simp] theorem started_tickCount (r : Timer) : (started r).tickCount = r.tickCount := rfl
@[simp] theorem started_curTicks (r : Timer) : (started r).curTicks = r.curTicks := rfl
@[simp] theorem started_cbFn (r : Timer) : (started r).cbFn = r.cbFn := rfl
@[simp] theorem started_cbCtx (r : Timer) : (started r).cbCtx = r.cbCtx := rfl
@[simp] theorem started_st (r : Timer) : (started r).st = .running := rfl
@[simp] theorem started_cnt (r : Timer) : (started r).cnt = r.cnt := rfl
@[simp] theorem started_ocr (r : Timer) : (started r).ocr = r.ocr := rfl
@[simp] theorem started_cs (r : Timer) : (started r).cs = r.presc := rfl
@[simp] theorem started_wgm (r : Timer) : (started r).wgm = r.wgm := rfl
@[simp] theorem started_com (r : Timer) : (started r).com = r.com := rfl
@[simp] theorem started_ieOvf (r : Timer) : (started r).ieOvf = r.ieOvf := rfl
@[simp] theorem started_ieCmp (r : Timer) : (started r).ieCmp = r.ieCmp := rfl
@[simp] theorem started_pendOvf (r : Timer) : (started r).pendOvf = r.pendOvf := rfl
@[simp] theorem started_pendCmp (r : Timer) : (started r).pendCmp = r.pendCmp := rfl

@[simp] theorem stopped_presc (r : Timer) : (stopped r).presc = r.presc := rfl
@[simp] theorem stopped_mode (r : Timer) : (stopped r).mode = r.mode := rfl
@[simp] theorem stopped_ttnum (r : Timer) : (stopped r).ttnum = r.ttnum := rfl
@[simp] theorem stopped_preload (r : Timer) : (stopped r).preload = r.preload := rfl
@[simp] theorem stopped_tickCount (r : Timer) : (stopped r).tickCount = r.tickCount := rfl
@[simp] theorem stopped_curTicks (r : Timer) : (stopped r).curTicks = r.curTicks := rfl
@[simp] theorem stopped_cbFn (r : Timer) : (stopped r).cbFn = r.cbFn := rfl
@[simp] theorem stopped_cbCtx (r : Timer) : (stopped r).cbCtx = r.cbCtx := rfl
@[simp] theorem stopped_st (r : Timer) : (stopped r).st = if r.st = .running then .configured else r.st := rfl
@[simp] theorem stopped_cnt (r : Timer) : (stopped r).cnt = r.cnt := rfl
@[simp] theorem stopped_ocr (r : Timer) : (stopped r).ocr = r.ocr := rfl
@[simp] theorem stopped_cs (r : Timer) : (stopped r).cs = .off := rfl
@[simp] theorem stopped_wgm (r : Timer) : (stopped r).wgm = r.wgm := rfl
@[simp] theorem stopped_com (r : Timer) : (stopped r).com = r.com := rfl
@[simp] theorem stopped_ieOvf (r : Timer) : (stopped r).ieOvf = r.ieOvf := rfl
@[simp] theorem stopped_ieCmp (r : Timer) : (stopped r).ieCmp = r.ieCmp := rfl
@[simp] theorem stopped_pendOvf (r : Timer) : (stopped r).pendOvf = r.pendOvf := rfl
@[simp] theorem stopped_pendCmp (r : Timer) : (stopped r).pendCmp = r.pendCmp := rfl

@[simp] theorem withPwm_presc (r : Timer) (v : PwmVariant) (com : Com) (n : Nat) :
    (withPwm r v com n).presc = r.presc := rfl
@[simp] theorem withPwm_mode (r : Timer) (v : PwmVariant) (com : Com) (n : Nat) :
    (withPwm r v com n).mode = r.mode := rfl
@[simp] theorem withPwm_ttnum (r : Timer) (v : PwmVariant) (com : Com) (n : Nat) :
    (withPwm r v com n).ttnum = r.ttnum := rfl
@[simp] theorem withPwm_preload (r : Timer) (v : PwmVariant) (com : Com) (n : Nat) :
    (withPwm r v com n).preload = r.preload := rfl
@[simp] theorem withPwm_tickCount (r : Timer) (v : PwmVariant) (com : Com) (n : Nat) :
    (withPwm r v com n).tickCount = r.tickCount := rfl
@[simp] theorem withPwm_curTicks (r : Timer) (v : PwmVariant) (com : Com) (n : Nat) :
    (withPwm r v com n).curTicks = r.curTicks := rfl
@[simp] theorem withPwm_cbFn (r : Timer) (v : PwmVariant) (com : Com) (n : Nat) :
    (withPwm r v com n).cbFn = r.cbFn := rfl
@[simp] theorem withPwm_cbCtx (r : Timer) (v : PwmVariant) (com : Com) (n : Nat) :
    (withPwm r v com n).cbCtx = r.cbCtx := rfl
@[simp] theorem withPwm_st (r : Timer) (v : PwmVariant) (com : Com) (n : Nat) :
    (withPwm r v com n).st = r.st := rfl
@[simp] theorem withPwm_cnt (r : Timer) (v : PwmVariant) (com : Com) (n : Nat) :
    (withPwm r v com n).cnt = r.cnt := rfl
@[simp] theorem withPwm_ocr (r : Timer) (v : PwmVariant) (com : Com) (n : Nat) :
    (withPwm r v com n).ocr = BitVec.ofNat 16 n := rfl
@[simp] theorem withPwm_cs (r : Timer) (v : PwmVariant) (com : Com) (n : Nat) :
    (withPwm r v com n).cs = r.cs := rfl
@[simp] theorem withPwm_wgm (r : Timer) (v : PwmVariant) (com : Com) (n : Nat) :
    (withPwm r v com n).wgm = wgmOfVariant v := rfl
@[simp] theorem withPwm_com (r : Timer) (v : PwmVariant) (com : Com) (n : Nat) :
    (withPwm r v com n).com = com := rfl
@[simp] theorem withPwm_ieOvf (r : Timer) (v : PwmVariant) (com : Com) (n : Nat) :
    (withPwm r v com n).ieOvf = r.ieOvf := rfl
@[simp] theorem withPwm_ieCmp (r : Timer) (v : PwmVariant) (com : Com) (n : Nat) :
    (withPwm r v com n).ieCmp = r.ieCmp := rfl
@[simp] theorem withPwm_pendOvf (r : Timer) (v : PwmVariant) (com : Com) (n : Nat) :
    (withPwm r v com n).pendOvf = r.pendOvf := rfl
@[simp] theorem withPwm_pendCmp (r : Timer) (v : PwmVariant) (com : Com) (n : Nat) :
    (withPwm r v com n).pendCmp = r.pendCmp := rfl

@[simp] theorem normalTick_presc (t : TimerId) (r : Timer) : (normalTick t r).presc = r.presc := rfl
@[simp] theorem normalTick_mode (t : TimerId) (r : Timer) : (normalTick t r).mode = r.mode := rfl
@[simp] theorem normalTick_ttnum (t : TimerId) (r : Timer) : (normalTick t r).ttnum = r.ttnum := rfl
@[simp] theorem normalTick_preload (t : TimerId) (r : Timer) : (normalTick t r).preload = r.preload := rfl
@[simp] theorem normalTick_tickCount (t : TimerId) (r : Timer) :
    (normalTick t r).tickCount = r.tickCount := rfl
@[simp] theorem normalTick_curTicks (t : TimerId) (r : Timer) : (normalTick t r).curTicks = r.curTicks := rfl
@[simp] theorem normalTick_cbFn (t : TimerId) (r : Timer) : (normalTick t r).cbFn = r.cbFn := rfl
@[simp] theorem normalTick_cbCtx (t : TimerId) (r : Timer) : (normalTick t r).cbCtx = r.cbCtx := rfl
@[simp] theorem normalTick_st (t : TimerId) (r : Timer) : (normalTick t r).st = r.st := rfl
@[simp] theorem normalTick_cnt (t : TimerId) (r : Timer) : (normalTick t r).cnt = nextCount t r := rfl
@[simp] theorem normalTick_ocr (t : TimerId) (r : Timer) : (normalTick t r).ocr = r.ocr := rfl
@[simp] theorem normalTick_cs (t : TimerId) (r : Timer) : (normalTick t r).cs = r.cs := rfl
@[simp] theorem normalTick_wgm (t : TimerId) (r : Timer) : (normalTick t r).wgm = r.wgm := rfl
@[simp] theorem normalTick_com (t : TimerId) (r : Timer) : (normalTick t r).com = r.com := rfl
@[simp] theorem normalTick_ieOvf (t : TimerId) (r : Timer) : (normalTick t r).ieOvf = r.ieOvf := rfl
@[simp] theorem normalTick_ieCmp (t : TimerId) (r : Timer) : (normalTick t r).ieCmp = r.ieCmp := rfl
@[simp] theorem normalTick_pendOvf (t : TimerId) (r : Timer) :
    (normalTick t r).pendOvf = (r.pendOvf || nextCount t r == 0) := rfl
@[simp] theorem normalTick_pendCmp (t : TimerId) (r : Timer) : (normalTick t r).pendCmp = r.pendCmp := rfl

@[simp] theorem ctcTick_presc (t : TimerId) (r : Timer) : (ctcTick t r).presc = r.presc := rfl
@[simp] theorem ctcTick_mode (t : TimerId) (r : Timer) : (ctcTick t r).mode = r.mode := rfl
@[simp] theorem ctcTick_ttnum (t : TimerId) (r : Timer) : (ctcTick t r).ttnum = r.ttnum := rfl
@[simp] theorem ctcTick_preload (t : TimerId) (r : Timer) : (ctcTick t r).preload = r.preload := rfl
@[simp] theorem ctcTick_tickCount (t : TimerId) (r : Timer) : (ctcTick t r).tickCount = r.tickCount := rfl
@[simp] theorem ctcTick_curTicks (t : TimerId) (r : Timer) : (ctcTick t r).curTicks = r.curTicks := rfl
@[simp] theorem ctcTick_cbFn (t : TimerId) (r : Timer) : (ctcTick t r).cbFn = r.cbFn := rfl
@[simp] theorem ctcTick_cbCtx (t : TimerId) (r : Timer) : (ctcTick t r).cbCtx = r.cbCtx := rfl
@[simp] theorem ctcTick_st (t : TimerId) (r : Timer) : (ctcTick t r).st = r.st := rfl
@[simp] theorem ctcTick_cnt (t : TimerId) (r : Timer) :
    (ctcTick t r).cnt = if nextCount t r = r.ocr then 0 else nextCount t r := rfl
@[simp] theorem ctcTick_ocr (t : TimerId) (r : Timer) : (ctcTick t r).ocr = r.ocr := rfl
@[simp] theorem ctcTick_cs (t : TimerId) (r : Timer) : (ctcTick t r).cs = r.cs := rfl
@[simp] theorem ctcTick_wgm (t : TimerId) (r : Timer) : (ctcTick t r).wgm = r.wgm := rfl
@[simp] theorem ctcTick_com (t : TimerId) (r : Timer) : (ctcTick t r).com = r.com := rfl
@[simp] theorem ctcTick_ieOvf (t : TimerId) (r : Timer) : (ctcTick t r).ieOvf = r.ieOvf := rfl
@[simp] theorem ctcTick_ieCmp (t : TimerId) (r : Timer) : (ctcTick t r).ieCmp = r.ieCmp := rfl
@[simp] theorem ctcTick_pendOvf (t : TimerId) (r : Timer) : (ctcTick t r).pendOvf = r.pendOvf := rfl
@[simp] theorem ctcTick_pendCmp (t : TimerId) (r : Timer) :
    (ctcTick t r).pendCmp = (r.pendCmp || nextCount t r == r.ocr) := rfl

@[simp] theorem softTick_presc (r : Timer) (src : Src) : (softTick r src).presc = r.presc := rfl
@[simp] theorem softTick_mode (r : Timer) (src : Src) : (softTick r src).mode = r.mode := rfl
@[simp] theorem softTick_ttnum (r : Timer) (src : Src) : (softTick r src).ttnum = r.ttnum := rfl
@[simp] theorem softTick_preload (r : Timer) (src : Src) : (softTick r src).preload = r.preload := rfl
@[simp] theorem softTick_tickCount (r : Timer) (src : Src) : (softTick r src).tickCount = r.tickCount := rfl
@[simp] theorem softTick_curTicks (r : Timer) (src : Src) :
    (softTick r src).curTicks = if completesInterval r then 0 else r.curTicks + 1 := rfl
@[simp] theorem softTick_cbFn (r : Timer) (src : Src) : (softTick r src).cbFn = r.cbFn := rfl
@[simp] theorem softTick_cbCtx (r : Timer) (src : Src) : (softTick r src).cbCtx = r.cbCtx := rfl
@[simp] theorem softTick_st (r : Timer) (src : Src) : (softTick r src).st = r.st := rfl
@[simp] theorem softTick_cnt (r : Timer) (src : Src) :
    (softTick r src).cnt = if completesInterval r && src == .ovf then r.preload else r.cnt := rfl
@[simp] theorem softTick_ocr (r : Timer) (src : Src) : (softTick r src).ocr = r.ocr := rfl
@[simp] theorem softTick_cs (r : Timer) (src : Src) : (softTick r src).cs = r.cs := rfl
@[simp] theorem softTick_wgm (r : Timer) (src : Src) : (softTick r src).wgm = r.wgm := rfl
@[simp] theorem softTick_com (r : Timer) (src : Src) : (softTick r src).com = r.com := rfl
@[simp] theorem softTick_ieOvf (r : Timer) (src : Src) : (softTick r src).ieOvf = r.ieOvf := rfl
@[simp] theorem softTick_ieCmp (r : Timer) (src : Src) : (softTick r src).ieCmp = r.ieCmp := rfl
@[simp] theorem softTick_pendOvf (r : Timer) (src : Src) :
    (softTick r src).pendOvf = (r.pendOvf && src != .ovf) := rfl
@[simp] theorem softTick_pendCmp (r : Timer) (src : Src) :
    (softTick r src).pendCmp = (r.pendCmp && src != .cmp) := rfl

/-! ### Updates of the state -/

@[simp] theorem setTimer_timers (s : State) (t : TimerId) (r : Timer) :
    (setTimer s t r).timers = s.timers.set t r := rfl
@[simp] theorem setTimer_gie (s : State) (t : TimerId) (r : Timer) : (setTimer s t r).gie = s.gie := rfl
@[simp] theorem setTimer_initDone (s : State) (t : TimerId) (r : Timer) :
    (setTimer s t r).initDone = s.initDone := rfl
@[simp] theorem setTimer_inService (s : State) (t : TimerId) (r : Timer) :
    (setTimer s t r).inService = s.inService := rfl
@[simp] theorem setTimer_config (s : State) (t : TimerId) (r : Timer) :
    (setTimer s t r).config = s.config := rfl
@[simp] theorem setTimer_agenda (s : State) (t : TimerId) (r : Timer) :
    (setTimer s t r).agenda = s.agenda := rfl
@[simp] theorem setTimer_choices (s : State) (t : TimerId) (r : Timer) :
    (setTimer s t r).choices = s.choices := rfl
@[simp] theorem setTimer_obs (s : State) (t : TimerId) (r : Timer) : (setTimer s t r).obs = s.obs := rfl

@[simp] theorem emit_timers (s : State) (o : Output) : (emit s o).timers = s.timers := rfl
@[simp] theorem emit_gie (s : State) (o : Output) : (emit s o).gie = s.gie := rfl
@[simp] theorem emit_initDone (s : State) (o : Output) : (emit s o).initDone = s.initDone := rfl
@[simp] theorem emit_inService (s : State) (o : Output) : (emit s o).inService = s.inService := rfl
@[simp] theorem emit_config (s : State) (o : Output) : (emit s o).config = s.config := rfl
@[simp] theorem emit_agenda (s : State) (o : Output) : (emit s o).agenda = s.agenda := rfl
@[simp] theorem emit_choices (s : State) (o : Output) : (emit s o).choices = s.choices := rfl
@[simp] theorem emit_obs (s : State) (o : Output) : (emit s o).obs = s.obs ++ [o] := rfl

@[simp] theorem returnFromInterrupt_timers (s : State) : (returnFromInterrupt s).timers = s.timers := rfl
@[simp] theorem returnFromInterrupt_gie (s : State) : (returnFromInterrupt s).gie = s.gie := rfl
@[simp] theorem returnFromInterrupt_initDone (s : State) :
    (returnFromInterrupt s).initDone = s.initDone := rfl
@[simp] theorem returnFromInterrupt_inService (s : State) : (returnFromInterrupt s).inService = none := rfl
@[simp] theorem returnFromInterrupt_config (s : State) : (returnFromInterrupt s).config = s.config := rfl
@[simp] theorem returnFromInterrupt_agenda (s : State) : (returnFromInterrupt s).agenda = s.agenda := rfl
@[simp] theorem returnFromInterrupt_choices (s : State) : (returnFromInterrupt s).choices = s.choices := rfl
@[simp] theorem returnFromInterrupt_obs (s : State) : (returnFromInterrupt s).obs = s.obs := rfl

theorem initialise_timers (s : State) :
    (initialise s).timers = ⟨recalibrate s.config .t0 s.timers.t0, recalibrate s.config .t1 s.timers.t1,
      recalibrate s.config .t2 s.timers.t2⟩ := rfl
@[simp] theorem initialise_gie (s : State) : (initialise s).gie = true := rfl
@[simp] theorem initialise_initDone (s : State) : (initialise s).initDone = true := rfl
@[simp] theorem initialise_inService (s : State) : (initialise s).inService = s.inService := rfl
@[simp] theorem initialise_config (s : State) : (initialise s).config = s.config := rfl
@[simp] theorem initialise_agenda (s : State) : (initialise s).agenda = s.agenda := rfl
@[simp] theorem initialise_choices (s : State) : (initialise s).choices = s.choices := rfl
@[simp] theorem initialise_obs (s : State) : (initialise s).obs = s.obs := rfl

@[simp] theorem offer_timers (s : State) (m : Move) : (offer s m).timers = s.timers := rfl
@[simp] theorem offer_gie (s : State) (m : Move) : (offer s m).gie = s.gie := rfl
@[simp] theorem offer_initDone (s : State) (m : Move) : (offer s m).initDone = s.initDone := rfl
@[simp] theorem offer_inService (s : State) (m : Move) : (offer s m).inService = s.inService := rfl
@[simp] theorem offer_config (s : State) (m : Move) : (offer s m).config = s.config := rfl
@[simp] theorem offer_agenda (s : State) (m : Move) : (offer s m).agenda = m :: s.agenda := rfl
@[simp] theorem offer_choices (s : State) (m : Move) : (offer s m).choices = s.choices := rfl
@[simp] theorem offer_obs (s : State) (m : Move) : (offer s m).obs = s.obs := rfl

@[simp] theorem initialise_get (s : State) (t : TimerId) :
    (initialise s).timers.get t = recalibrate s.config t (s.timers.get t) := by
  cases t <;> rfl

@[simp] theorem resetWith_get (c : Config) (t : TimerId) : (State.resetWith c).timers.get t = Timer.reset := by
  cases t <;> rfl

end Sys2Proof.Machine
end

