-- ==== Sys2Proof/Laws/Ops.lean ====
section
/-! SUPPORT. What each shared operation can do, said once: responses, operands, enabling conditions,
interrupts and ticks. -/

namespace Sys2Proof.Machine

/-! ### Responses -/

@[simp] theorem accept_eq_next {d : Word} {s s' : State} :
    accept d s = .next s' ↔ s' = emit s (.response .ok d) := by
  simp [accept, eq_comm]

@[simp] theorem raise_eq_next {st : Status} {s s' : State} :
    raise st s = .next s' ↔ s' = emit s (.response st 0) := by
  simp [raise, eq_comm]

@[simp] theorem accept_ne_refused {d : Word} {s : State} {r : Refusal} : accept d s ≠ .refused r := by
  simp [accept]

@[simp] theorem raise_ne_refused {st : Status} {s : State} {r : Refusal} : raise st s ≠ .refused r := by
  simp [raise]

/-! ### Operands -/

theorem timerOfCode_eq_some {t : BitVec 2} {id : TimerId} : timerOfCode t = some id ↔ t = timerCode id := by
  cases id <;> revert t <;> decide

@[simp] theorem timerOfCode_timerCode (id : TimerId) : timerOfCode (timerCode id) = some id :=
  timerOfCode_eq_some.mpr rfl

theorem timerCode_injective {a b : TimerId} (h : timerCode a = timerCode b) : a = b := by
  cases a <;> cases b <;> first | rfl | exact absurd h (by decide)

/-- The timer operand names the timer: its id, enabled (30_encoding.md R67). -/
theorem enabledTimer_eq_some {c : Config} {t : BitVec 2} {id : TimerId} :
    enabledTimer c t = some id ↔ t = timerCode id ∧ c.isEnabled id = true := by
  unfold enabledTimer
  constructor
  · intro h
    split at h
    · cases h
    · next u hu =>
      split at h
      · next he => cases h; exact ⟨timerOfCode_eq_some.mp hu, he⟩
      · cases h
  · rintro ⟨rfl, he⟩
    simp [he]

/-- The timer operand names no timer: 3, or an id outside `ENABLED` (30_encoding.md R67). -/
theorem enabledTimer_eq_none {c : Config} {t : BitVec 2} :
    enabledTimer c t = none ↔ ∀ id, t = timerCode id → c.isEnabled id = false := by
  rw [Option.eq_none_iff_forall_ne_some]
  simp only [ne_eq, enabledTimer_eq_some, not_and, Bool.not_eq_true]

theorem pwmTimer_eq_some {c : Config} {t : BitVec 2} {v : PwmVariant} {id : TimerId} {top : Nat} :
    pwmTimer c t v = some (id, top) ↔ enabledTimer c t = some id ∧ pwmTop c id v = some top := by
  unfold pwmTimer
  split
  · next h => simp [h]
  · next u h =>
    simp only [h, Option.some.injEq, Option.map_eq_some_iff, Prod.mk.injEq]
    constructor
    · rintro ⟨a, ha, rfl, rfl⟩; exact ⟨rfl, ha⟩
    · rintro ⟨rfl, ha⟩; exact ⟨top, ha, rfl, rfl⟩

/-- `PWM_CAPABLE` is the set of timers that have a top value (00_scope.md R13). -/
theorem pwmCapable_iff_top (c : Config) (t : TimerId) (v : PwmVariant) :
    pwmCapable t = (pwmTop c t v).isSome := by
  cases t <;> cases v <;> rfl

theorem prescOperand_eq_some {code : BitVec 8} {p : Presc} :
    prescOperand code = some p ↔ p ≠ .off ∧ code = (prescCode p).setWidth 8 := by
  cases p <;> revert code <;> decide

theorem modeOperand_eq_some {m : BitVec 2} {md : Mode} :
    modeOperand m = some md ↔ m = (modeCode md).setWidth 2 := by
  cases md <;> revert m <;> decide

theorem wgmOfMode_ne_pwm (m : Mode) : wgmOfMode m ≠ .fastPwm ∧ wgmOfMode m ≠ .phasePwm := by
  cases m <;> decide

/-! ### Enabling conditions -/

theorem clockRuns_iff {r : Timer} : clockRuns r = true ↔ r.cs ≠ .off := by
  simp [clockRuns]

/-- When a tick is a step (60_exceptions.md R134). -/
theorem tickEnabled_iff {s : State} {t : TimerId} :
    tickEnabled s t = true ↔ s.config.isEnabled t = true ∧ (s.timers.get t).cs ≠ .off := by
  simp [tickEnabled, clockRuns]

/-- When a dispatch is a step (60_exceptions.md R137). -/
theorem dispatchEnabled_iff {s : State} {t : TimerId} {src : Src} :
    dispatchEnabled s t src = true ↔
      s.config.isEnabled t = true ∧ pending (s.timers.get t) src = true
        ∧ sourceEnabled (s.timers.get t) src = true ∧ s.gie = true ∧ s.inService = none := by
  simp [dispatchEnabled, and_assoc]

/-! ### Interrupts -/

theorem completesInterval_iff {r : Timer} : completesInterval r = true ↔ r.curTicks + 1 = r.tickCount := by
  simp [completesInterval]

@[simp] theorem invokeCallback_timers (s : State) (t : TimerId) (src : Src) :
    (invokeCallback s t src).timers = s.timers := by
  unfold invokeCallback; dsimp only; split <;> rfl

@[simp] theorem takeInterrupt_timers (s : State) (t : TimerId) (src : Src) :
    (takeInterrupt s t src).timers = s.timers.set t (softTick (s.timers.get t) src) := by
  unfold takeInterrupt; dsimp only; split <;> simp

/-- Everything a dispatch can do (60_exceptions.md R138, 42_callback_registry.md R100): the soft tick, and
beside it either nothing, or one `Invoke` that is then in service, when the interval is complete and a
callback is registered. -/
theorem takeInterrupt_cases (s : State) (t : TimerId) (src : Src) :
    let r := s.timers.get t
    let s₁ := setTimer s t (softTick r src)
    (completesInterval r = true ∧ r.cbFn ≠ 0
      ∧ takeInterrupt s t src = emit { s₁ with inService := some (t, src) } (.invoke t r.cbFn r.cbCtx))
    ∨ ((completesInterval r = false ∨ r.cbFn = 0) ∧ takeInterrupt s t src = s₁) := by
  unfold takeInterrupt invokeCallback
  by_cases hc : completesInterval (s.timers.get t) = true
  · by_cases hf : (s.timers.get t).cbFn = 0
    · right; simp [hc, hf]
    · left
      dsimp only
      rw [if_pos hc, setTimer_timers, get_set_same, softTick_cbFn, if_neg hf, softTick_cbCtx]
      exact ⟨hc, hf, rfl⟩
  · right; simp [hc]

theorem dispatchStep_eq_next {t : TimerId} {src : Src} {s s' : State} :
    dispatchStep t src s = .next s' ↔ dispatchEnabled s t src = true ∧ s' = takeInterrupt s t src := by
  unfold dispatchStep
  by_cases he : dispatchEnabled s t src = true
  · simp [he, eq_comm]
  · simp [he]

/-! ### Ticks -/

/-- Everything a tick can do (60_exceptions.md R131, R132). -/
theorem tickStep_eq_next {t : TimerId} {s s' : State} :
    tickStep t s = .next s' ↔ tickEnabled s t = true
      ∧ (((s.timers.get t).wgm = .normal ∧ s' = setTimer s t (normalTick t (s.timers.get t)))
        ∨ ((s.timers.get t).wgm = .ctc ∧ s' = setTimer s t (ctcTick t (s.timers.get t)))) := by
  unfold tickStep
  by_cases he : tickEnabled s t = true
  · cases hw : (s.timers.get t).wgm <;> simp [he, eq_comm]
  · simp [he]

theorem cap_pos (t : TimerId) : 0 < cap t := by cases t <;> decide

theorem cap_le (t : TimerId) : cap t ≤ 65536 := by cases t <;> decide

/-- The count stays below the capacity (60_exceptions.md R135). -/
theorem nextCount_toNat (t : TimerId) (r : Timer) : (nextCount t r).toNat = (r.cnt.toNat + 1) % cap t := by
  have h := Nat.mod_lt (r.cnt.toNat + 1) (cap_pos t)
  have := cap_le t
  simp only [nextCount, BitVec.toNat_ofNat]
  exact Nat.mod_eq_of_lt (by omega)

end Sys2Proof.Machine
end

