-- ==== Sys2Proof/Laws/PerInstr.lean ====
section
/-! SUPPORT. A statement about every command as syntax, one lemma per constructor: the opcode field of
an encoded command is the opcode of its row (30_encoding.md R63, R65). -/

namespace Sys2Proof.Laws.EncodedOpcode

/-- The opcode of a command (30_encoding.md R65). -/
def opcodeOf : Instr → BitVec 4
  | .tinit => 0x1
  | .tpresc _ _ => 0x2
  | .tsettime _ _ _ => 0x3
  | .tsetcb _ _ _ => 0x4
  | .tstart _ => 0x5
  | .tstop _ => 0x6
  | .tpwmf _ _ _ => 0x7
  | .tpwmp _ _ _ => 0x8
  | .tiret => 0x9
  | .trd _ _ => 0xA

/-- The opcode field of the encoded command is its row's opcode. -/
def Statement (i : Instr) : Prop := opField (encode i) = opcodeOf i

/-- The most significant field of an assembled word. -/
theorem opField_fieldsWord (op : BitVec 4) (t m : BitVec 2) (a : BitVec 8) (z : BitVec 16) (hi lo : Half) :
    opField (fieldsWord op t m a z hi lo) = op := by
  unfold opField fieldsWord
  apply BitVec.eq_of_getLsbD_eq
  intro i hi
  simp only [BitVec.getLsbD_extractLsb', BitVec.getLsbD_append]
  have h : decide (i < 4) = true := by simpa using hi
  simp only [h, Bool.true_and]
  repeat' (split; omega)
  congr 1
  omega

theorem tinit : Statement .tinit := opField_fieldsWord _ _ _ _ _ _ _
theorem tpresc (t : BitVec 2) (code : BitVec 8) : Statement (.tpresc t code) :=
  opField_fieldsWord _ _ _ _ _ _ _
theorem tsettime (t mode : BitVec 2) (ms : Half) : Statement (.tsettime t mode ms) :=
  opField_fieldsWord _ _ _ _ _ _ _
theorem tsetcb (t : BitVec 2) (fn ctx : Half) : Statement (.tsetcb t fn ctx) :=
  opField_fieldsWord _ _ _ _ _ _ _
theorem tstart (t : BitVec 2) : Statement (.tstart t) := opField_fieldsWord _ _ _ _ _ _ _
theorem tstop (t : BitVec 2) : Statement (.tstop t) := opField_fieldsWord _ _ _ _ _ _ _
theorem tpwmf (t pol : BitVec 2) (percent : BitVec 8) : Statement (.tpwmf t pol percent) :=
  opField_fieldsWord _ _ _ _ _ _ _
theorem tpwmp (t pol : BitVec 2) (percent : BitVec 8) : Statement (.tpwmp t pol percent) :=
  opField_fieldsWord _ _ _ _ _ _ _
theorem tiret : Statement .tiret := opField_fieldsWord _ _ _ _ _ _ _
theorem trd (t : BitVec 2) (reg : BitVec 8) : Statement (.trd t reg) := opField_fieldsWord _ _ _ _ _ _ _

end Sys2Proof.Laws.EncodedOpcode
end

