-- ==== Sys2Proof/Laws/Safety.lean ====
section
/-! SUPPORT. What the fairness assumptions of Safety.lean give a proof (70_reset_and_hazards.md R168). -/

namespace Sys2Proof

open Sys2Proof.Machine

/-- Under the second fairness assumption an event of a source comes only after the dispatch of that source
that was enabled before it, however that dispatch was held off in between. -/
theorem fairDispatch_taken_before_event {run : Nat → State} {t : TimerId} {src : Src} {n k : Nat}
    (hf : FairDispatch run) (he : dispatchEnabled (run n) t src = true) (hnk : n ≤ k)
    (hk : eventAt run t src k) : ∃ j, n ≤ j ∧ j < k ∧ takes (run j) (.dispatch t src) := by
  obtain ⟨j, hnj, hj, hno⟩ := hf t src n he
  refine ⟨j, hnj, ?_, hj⟩
  by_contra hkj
  rcases Nat.lt_or_eq_of_le (Nat.not_lt.mp hkj) with hlt | rfl
  · exact hno k hnk hlt hk
  · exact absurd (hk.1.symm.trans hj) (by simp)

/-- Under the second fairness assumption no event of a source comes at a step at which its dispatch is
enabled. -/
theorem fairDispatch_no_event_when_enabled {run : Nat → State} {t : TimerId} {src : Src} {n : Nat}
    (hf : FairDispatch run) (he : dispatchEnabled (run n) t src = true) : ¬ eventAt run t src n := by
  intro hk
  obtain ⟨j, hnj, hjn, -⟩ := fairDispatch_taken_before_event hf he (Nat.le_refl n) hk
  exact absurd hnj (Nat.not_le.mpr hjn)

/-- A run without overruns raises every event on a clear flag. -/
theorem noOverruns_flag_clear {run : Nat → State} {t : TimerId} {src : Src} {n : Nat}
    (hf : NoOverruns run) (hk : eventAt run t src n) : pending ((run n).timers.get t) src = false := by
  by_contra hp
  exact hf t n hk.1 ⟨src, hk.2, by simpa using hp⟩

end Sys2Proof
end

