-- ==== Sys2Proof/Laws/Step.lean ====
section
/-! SUPPORT. What a command, a move and a step can do, said once: the writes of each command that
succeeds, and the inversion of exec, runMove and step. -/

namespace Sys2Proof.Machine

/-- The writes of a command that answers `Ok`: `Effect i s s₁ d` says that `i` run in `s` writes `s₁`
and answers the data `d`. -/
inductive Effect (s : State) : Instr → State → Word → Prop where
  | tinit : Effect s .tinit (initialise s) 0
  | tpresc {t code id p} (ht : enabledTimer s.config t = some id) (hp : prescOperand code = some p)
      (hc : clockRuns (s.timers.get id) = false) :
      Effect s (.tpresc t code) (setTimer s id (withPresc (s.timers.get id) p)) 0
  | tsettime {t mode ms id md d} (ht : enabledTimer s.config t = some id)
      (hm : modeOperand mode = some md) (hp : (s.timers.get id).presc ≠ .off)
      (hd : decompose s.config id md (s.timers.get id).ttnum.toNat ms.toNat = some d)
      (hc : clockRuns (s.timers.get id) = false) :
      Effect s (.tsettime t mode ms) (setTimer s id (configured (s.timers.get id) md d)) 0
  | tsetcb {t fn ctx id} (ht : enabledTimer s.config t = some id) (hf : fn ≠ 0) :
      Effect s (.tsetcb t fn ctx) (setTimer s id (withCallback (s.timers.get id) fn ctx)) 0
  | tstart {t id} (ht : enabledTimer s.config t = some id) (hs : (s.timers.get id).st ≠ .unconfigured) :
      Effect s (.tstart t) (setTimer s id (started (s.timers.get id))) 0
  | tstop {t id} (ht : enabledTimer s.config t = some id) :
      Effect s (.tstop t) (setTimer s id (stopped (s.timers.get id))) 0
  | tpwmf {t pol percent id top com} (ht : pwmTimer s.config t .fast = some (id, top))
      (hp : percentAccepted percent = true) (hc : polarityOperand pol = some com) :
      Effect s (.tpwmf t pol percent)
        (setTimer s id (withPwm (s.timers.get id) .fast com (pwmCompare percent.toNat top))) 0
  | tpwmp {t pol percent id top com} (ht : pwmTimer s.config t .phaseCorrect = some (id, top))
      (hp : percentAccepted percent = true) (hc : polarityOperand pol = some com) :
      Effect s (.tpwmp t pol percent)
        (setTimer s id (withPwm (s.timers.get id) .phaseCorrect com (pwmCompare percent.toNat top))) 0
  | tiret {x} (hx : s.inService = some x) : Effect s .tiret (returnFromInterrupt s) 0
  | trdGlobal {t reg g} (hg : globalRegOfIndex reg = some g) (ht : t = 0) :
      Effect s (.trd t reg) s (readGlobalReg s g)
  | trdTimer {t reg n id} (hg : globalRegOfIndex reg = none) (hn : timerRegOfIndex reg = some n)
      (ht : enabledTimer s.config t = some id) :
      Effect s (.trd t reg) s (readTimerReg (s.timers.get id) n)

/-- Everything a command can do when it is a step: raise a status and write nothing, or have its effect
and answer `Ok` (60_exceptions.md R123). -/
theorem exec_next {i : Instr} {s s' : State} (h : exec i s = .next s') :
    (∃ st, st ≠ .ok ∧ s' = emit s (.response st 0))
    ∨ ∃ s₁ d, Effect s i s₁ d ∧ s' = emit s₁ (.response .ok d) := by
  cases i with
  | tinit =>
    exact .inr ⟨_, _, .tinit, by simpa [exec, execTinit] using h⟩
  | tpresc t code =>
    simp only [exec, execTpresc] at h
    split at h
    · exact .inl ⟨_, by decide, raise_eq_next.mp h⟩
    · next id hid =>
      split at h
      · exact .inl ⟨_, by decide, raise_eq_next.mp h⟩
      · next p hp =>
        split at h
        · cases h
        · next hc => exact .inr ⟨_, _, .tpresc hid hp (by simpa using hc), accept_eq_next.mp h⟩
  | tsettime t mode ms =>
    simp only [exec, execTsettime] at h
    split at h
    · exact .inl ⟨_, by decide, raise_eq_next.mp h⟩
    · next id hid =>
      split at h
      · exact .inl ⟨_, by decide, raise_eq_next.mp h⟩
      · next md hm =>
        split at h
        · exact .inl ⟨_, by decide, raise_eq_next.mp h⟩
        · next hp =>
          split at h
          · exact .inl ⟨_, by decide, raise_eq_next.mp h⟩
          · next d hd =>
            split at h
            · cases h
            · next hc =>
              exact .inr ⟨_, _, .tsettime hid hm hp hd (by simpa using hc), accept_eq_next.mp h⟩
  | tsetcb t fn ctx =>
    simp only [exec, execTsetcb] at h
    split at h
    · exact .inl ⟨_, by decide, raise_eq_next.mp h⟩
    · next id hid =>
      split at h
      · exact .inl ⟨_, by decide, raise_eq_next.mp h⟩
      · next hf => exact .inr ⟨_, _, .tsetcb hid hf, accept_eq_next.mp h⟩
  | tstart t =>
    simp only [exec, execTstart] at h
    split at h
    · exact .inl ⟨_, by decide, raise_eq_next.mp h⟩
    · next id hid =>
      split at h
      · exact .inl ⟨_, by decide, raise_eq_next.mp h⟩
      · next hs => exact .inr ⟨_, _, .tstart hid hs, accept_eq_next.mp h⟩
  | tstop t =>
    simp only [exec, execTstop] at h
    split at h
    · exact .inl ⟨_, by decide, raise_eq_next.mp h⟩
    · next id hid => exact .inr ⟨_, _, .tstop hid, accept_eq_next.mp h⟩
  | tpwmf t pol percent =>
    simp only [exec, execTpwmf, setDuty] at h
    split at h
    · exact .inl ⟨_, by decide, raise_eq_next.mp h⟩
    · next id top ht =>
      split at h
      · next hp =>
        split at h
        · exact .inl ⟨_, by decide, raise_eq_next.mp h⟩
        · next com hc => exact .inr ⟨_, _, .tpwmf ht hp hc, accept_eq_next.mp h⟩
      · exact .inl ⟨_, by decide, raise_eq_next.mp h⟩
  | tpwmp t pol percent =>
    simp only [exec, execTpwmp, setDuty] at h
    split at h
    · exact .inl ⟨_, by decide, raise_eq_next.mp h⟩
    · next id top ht =>
      split at h
      · next hp =>
        split at h
        · exact .inl ⟨_, by decide, raise_eq_next.mp h⟩
        · next com hc => exact .inr ⟨_, _, .tpwmp ht hp hc, accept_eq_next.mp h⟩
      · exact .inl ⟨_, by decide, raise_eq_next.mp h⟩
  | tiret =>
    simp only [exec, execTiret] at h
    split at h
    · exact .inl ⟨_, by decide, raise_eq_next.mp h⟩
    · next x hx => exact .inr ⟨_, _, .tiret hx, accept_eq_next.mp h⟩
  | trd t reg =>
    simp only [exec, execTrd] at h
    split at h
    · next g hg =>
      split at h
      · next ht => exact .inr ⟨_, _, .trdGlobal hg ht, accept_eq_next.mp h⟩
      · exact .inl ⟨_, by decide, raise_eq_next.mp h⟩
    · next hg =>
      split at h
      · next n hn =>
        split at h
        · exact .inl ⟨_, by decide, raise_eq_next.mp h⟩
        · next id ht => exact .inr ⟨_, _, .trdTimer hg hn ht, accept_eq_next.mp h⟩
      · exact .inl ⟨_, by decide, raise_eq_next.mp h⟩

/-- Everything the command step can do (30_encoding.md R62). -/
theorem commandStep_next {w : CmdWord} {s s' : State} (h : commandStep w s = .next s') :
    (∃ st, st ≠ .ok ∧ s' = emit s (.response st 0))
    ∨ ∃ i s₁ d, decode w = .ok i ∧ Effect s i s₁ d ∧ s' = emit s₁ (.response .ok d) := by
  unfold commandStep at h
  split at h
  · next i hi =>
    rcases exec_next h with h | ⟨s₁, d, he, hs⟩
    · exact .inl h
    · exact .inr ⟨i, s₁, d, hi, he, hs⟩
  · exact .inl ⟨_, by decide, raise_eq_next.mp h⟩

/-- Everything a step of any kind can do (20_memory.md R55). -/
theorem runMove_next {m : Move} {s s' : State} (h : runMove m s = .next s') :
    (∃ w st, m = .cmd w ∧ st ≠ .ok ∧ s' = emit s (.response st 0))
    ∨ (∃ w i s₁ d, m = .cmd w ∧ decode w = .ok i ∧ Effect s i s₁ d ∧ s' = emit s₁ (.response .ok d))
    ∨ (∃ t, m = .tick t ∧ tickEnabled s t = true
        ∧ (((s.timers.get t).wgm = .normal ∧ s' = setTimer s t (normalTick t (s.timers.get t)))
          ∨ ((s.timers.get t).wgm = .ctc ∧ s' = setTimer s t (ctcTick t (s.timers.get t)))))
    ∨ ∃ t src, m = .dispatch t src ∧ dispatchEnabled s t src = true ∧ s' = takeInterrupt s t src := by
  cases m with
  | cmd w =>
    rcases commandStep_next h with ⟨st, hst, hs⟩ | ⟨i, s₁, d, hi, he, hs⟩
    · exact .inl ⟨w, st, rfl, hst, hs⟩
    · exact .inr (.inl ⟨w, i, s₁, d, rfl, hi, he, hs⟩)
  | tick t => exact .inr (.inr (.inl ⟨t, rfl, tickStep_eq_next.mp h⟩))
  | dispatch t src => exact .inr (.inr (.inr ⟨t, src, rfl, dispatchStep_eq_next.mp h⟩))

/-- What is next when a step is offered. -/
theorem nextMove_offered {s : State} {m : Move} {rest : List Move} (h : s.agenda = m :: rest) :
    nextMove s = (m, { s with agenda := rest }) := by
  simp [nextMove, h]

/-- What is next when nothing is offered. -/
theorem nextMove_free {s : State} (h : s.agenda = []) :
    nextMove s = (freeMove s, { s with choices := s.choices + 1 }) := by
  simp [nextMove, h]

/-- The state a step runs on differs from the state before in the model's own fields only. -/
theorem nextMove_state (s : State) :
    (nextMove s).2.timers = s.timers ∧ (nextMove s).2.gie = s.gie ∧ (nextMove s).2.initDone = s.initDone
      ∧ (nextMove s).2.inService = s.inService ∧ (nextMove s).2.config = s.config
      ∧ (nextMove s).2.obs = s.obs := by
  unfold nextMove
  split <;> exact ⟨rfl, rfl, rfl, rfl, rfl, rfl⟩

/-- No step reads the offered steps: what lies further ahead is carried along (log 2). -/
theorem runMove_agenda (m : Move) (s : State) (x : List Move) :
    runMove m { s with agenda := x } =
      match runMove m s with
      | .next s' => .next { s' with agenda := x }
      | .fault f => .fault f
      | .refused r => .refused r := by
  cases m with
  | cmd w =>
    simp only [runMove, commandStep]
    split
    · next i _ =>
      cases i <;> simp only [exec]
      · rfl
      · simp only [execTpresc]
        split <;> [rfl; (split <;> [rfl; (split <;> rfl)])]
      · simp only [execTsettime]
        split <;> [rfl; (split <;> [rfl; (split <;> [rfl; (split <;> [rfl; (split <;> rfl)])])])]
      · simp only [execTsetcb]
        split <;> [rfl; (split <;> rfl)]
      · simp only [execTstart]
        split <;> [rfl; (split <;> rfl)]
      · simp only [execTstop]
        split <;> rfl
      · simp only [execTpwmf, setDuty]
        split <;> [rfl; (split <;> [(split <;> rfl); rfl])]
      · simp only [execTpwmp, setDuty]
        split <;> [rfl; (split <;> [(split <;> rfl); rfl])]
      · simp only [execTiret]
        split <;> rfl
      · simp only [execTrd]
        split
        · next g _ =>
          have hg : readGlobalReg { s with agenda := x } g = readGlobalReg s g := by cases g <;> rfl
          rw [hg]
          split <;> rfl
        · split <;> [(split <;> rfl); rfl]
    · rfl
  | tick t =>
    simp only [runMove, tickStep]
    have he : tickEnabled { s with agenda := x } t = tickEnabled s t := rfl
    rw [he]
    split
    · cases hw : (s.timers.get t).wgm <;> simp [setTimer]
    · rfl
  | dispatch t src =>
    simp only [runMove, dispatchStep]
    have he : dispatchEnabled { s with agenda := x } t src = dispatchEnabled s t src := rfl
    rw [he]
    split
    · unfold takeInterrupt invokeCallback
      by_cases h1 : completesInterval (s.timers.get t) = true <;>
        by_cases h2 : (s.timers.get t).cbFn = 0#16 <;> simp [setTimer, emit, h1, h2]
    · rfl

/-- A run of the machine that takes one step and then `k` more. -/
theorem run_succ (M : Host.Core) (k : Nat) (s : M.State) :
    M.run (k + 1) s =
      match M.step s with
      | .next s' => M.run k s'
      | .fault f => .fault f
      | .refused r => .refused r := rfl

/-- A run whose first step goes on is the run from the next state. -/
theorem core_run_next {k : Nat} {s s' : State} (h : step s = .next s') :
    Host.Core.run Sys2Proof.core (k + 1) s = Host.Core.run Sys2Proof.core k s' := by
  have h : Sys2Proof.core.step s = .next s' := h
  exact (run_succ Sys2Proof.core k s).trans (by rw [h])

/-- A run whose first step is refused is refused. -/
theorem core_run_refused {k : Nat} {s : State} {r : Refusal} (h : step s = .refused r) :
    Host.Core.run Sys2Proof.core (k + 1) s = .refused r := by
  have h : Sys2Proof.core.step s = .refused r := h
  exact (run_succ Sys2Proof.core k s).trans (by rw [h])

/-- A word placed to be fetched is the next step, and the state it runs on is the state before. -/
theorem step_withFetchWord (s : State) (nbits w : Nat) :
    step (s.withFetchWord nbits w) = commandStep (wordOfTable nbits w) s := rfl

end Sys2Proof.Machine
end

