-- ==== Sys2Proof/Tests/Slice0.lean ====
section
/-! SUPPORT. Tests. Every expected result is taken from the spec: words written out from the field
positions of 30_encoding.md R63 and R64, results from 95_test_vectors.md (its section is named at each
test) or from the rule named. Below them, one witness per statement that has hypotheses. -/

namespace Sys2Proof.Tests

open Sys2Proof.Machine Sys2Proof.Claims

/-! ### Small states -/

/-- The state after an outcome. -/
def after : Out → Option State
  | .next s => some s
  | .fault _ => none
  | .refused _ => none

/-- Why the machine stopped. -/
def stopped : Out → Option Refusal
  | .next _ => none
  | .fault _ => none
  | .refused r => some r

/-- The last output. -/
def answer (o : Out) : Option Output := (after o).bind fun s => s.obs.getLast?

/-- A register of timer 0 after an outcome. -/
def reads (o : Out) (n : TimerReg) : Option Word := (after o).map fun s => readTimerReg (s.timers.get .t0) n

/-- The reset state with the given timer 0. -/
def withT0 (r : Timer) : State := setTimer State.reset .t0 r

/-- Timer 0 after `TPRESC 0, 5` from reset (2.2). -/
def prescaled : Timer := { Timer.reset with presc := .div1024, ttnum := 1024000 }

/-- Timer 0 after E3: `TPRESC 0, 5`, `TSETTIME 0, NORMAL, 100`. -/
def e3 : Timer :=
  { prescaled with preload := 159, tickCount := 1, st := .configured, cnt := 159, ieOvf := true }

/-- Timer 0 after step 5 of program P1. -/
def p1 : Timer := { e3 with cs := .div1024, st := .running, cbFn := 0x1234, cbCtx := 0xABCD }

/-- Timer 0 after step 5 of program P2. -/
def p2 : Timer :=
  { Timer.reset with
    presc := .div8, mode := .ctc, ttnum := 8000, preload := 250, tickCount := 5, cbFn := 0x0100
    cbCtx := 1, st := .running, ocr := 250, cs := .div8, wgm := .ctc, ieCmp := true }

/-- The state with the global enable set and the given timer 0. -/
def serving (r : Timer) : State := { withT0 r with gie := true, initDone := true }

/-- Parameters with timer 0 only. -/
def onlyT0 : Config := { Config.vectors with enabled := { t0 := true, t1 := false, t2 := false } }

/-! ### Well-formedness: each check refuses an ill-formed term (30_encoding.md R74 (c)) -/

theorem test_wf_refuses_unnamed_index : (Instr.trd 0 0x09).wf = false := by decide
theorem test_wf_refuses_global_index_of_timer : (Instr.trd 1 0x10).wf = false := by decide
theorem test_wf_accepts :
    (Instr.trd 3 0x08).wf = true ∧ (Instr.trd 0 0x11).wf = true ∧ (Instr.tpresc 3 255).wf = true := by decide
theorem test_parameters_refused :
    ({ Config.vectors with fCpu := 0 } : Config).wf = false
    ∧ ({ Config.vectors with pwmTop1Fast := 0 } : Config).wf = false
    ∧ ({ Config.vectors with pwmTop1Phase := 0 } : Config).wf = false
    ∧ ({ Config.vectors with ladder := [{ lo := 0, hi := 5 }] } : Config).wf = false
    ∧ Config.vectors.wf = true := by decide

/-! ### Decoding: one written-out word per command -/

theorem test_decode_tinit : decode 0x1000000000000000 = .ok .tinit := by decide
theorem test_decode_tpresc : decode 0x2803000000000000 = .ok (.tpresc 2 3) := by decide
theorem test_decode_tsettime : decode 0x3E0000000000FFFE = .ok (.tsettime 3 2 0xFFFE) := by decide
theorem test_decode_tsetcb : decode 0x4400000002000001 = .ok (.tsetcb 1 0x0200 0x0001) := by decide
theorem test_decode_tstart : decode 0x5C00000000000000 = .ok (.tstart 3) := by decide
theorem test_decode_tstop : decode 0x6400000000000000 = .ok (.tstop 1) := by decide
theorem test_decode_tpwmf : decode 0x7264000000000000 = .ok (.tpwmf 0 2 100) := by decide
theorem test_decode_tpwmp : decode 0x8419000000000000 = .ok (.tpwmp 1 0 25) := by decide
theorem test_decode_tiret : decode 0x9000000000000000 = .ok .tiret := by decide
theorem test_decode_trd : decode 0xA410000000000000 = .ok (.trd 1 0x10) := by decide

/-- The opcodes 0x0 and 0xB to 0xF (2.1; R74 (a)). -/
theorem test_decode_reserved :
    decode 0x0000000000000000 = .error (.reservedOpcode 0)
    ∧ decode 0xB000000000000000 = .error (.reservedOpcode 0xB)
    ∧ decode 0xF000000000000000 = .error (.reservedOpcode 0xF) := by decide

/-- Unused fields that are not zero (2.1; R74 (b)). -/
theorem test_decode_unused_field :
    decode 0x1000000000000001 = .error (.nonzeroUnusedField 1)
    ∧ decode 0x5001000000000000 = .error (.nonzeroUnusedField 5)
    ∧ decode 0x3000000000010064 = .error (.nonzeroUnusedField 3)
    ∧ decode 0x4100000012340000 = .error (.nonzeroUnusedField 4) := by decide

/-- Encoding gives the words of the vectors (2.5, 2.6, 2.8). -/
theorem test_encode :
    encode (.tsettime 0 1 100) = 0x3100000000000064
    ∧ encode (.tsetcb 2 0x0300 1) = 0x4800000003000001
    ∧ encode (.tpwmp 0 1 100) = 0x8164000000000000 := by decide

theorem test_table_word :
    decodeTableWord 64 0x2C05000000000000 = some (.tpresc 3 5) ∧ decodeTableWord 72 0 = none := by decide

/-! ### Calibration (2.2, E1) -/

theorem test_tpresc_writes :
    answer (execTpresc 0 5 State.reset) = some (.response .ok 0)
    ∧ (after (execTpresc 0 5 State.reset)).map (fun s => s.timers.get .t0) = some prescaled := by decide
theorem test_tpresc_rejects :
    answer (execTpresc 3 0 State.reset) = some (.response .invalidTimer 0)
    ∧ answer (execTpresc 0 6 State.reset) = some (.response .invalidPrescaler 0)
    ∧ stopped (execTpresc 0 3 (withT0 p1)) = some .configWhileRunning := by decide
theorem test_tinit :
    (after (execTinit (withT0 prescaled))).map (fun s => (s.gie, s.initDone, s.timers.get .t0))
      = some (true, true, prescaled) := by decide

/-! ### Decomposition (2.3, 2.4, 2.5) -/

theorem test_overflow_rows :
    overflowDecomposition 97 256 = ⟨159, 1⟩ ∧ overflowDecomposition 256 256 = ⟨0, 1⟩
    ∧ overflowDecomposition 5859 256 = ⟨29, 23⟩ ∧ overflowDecomposition 4294967295 65536 = ⟨1, 65536⟩ := by
  decide
theorem test_compare_rows :
    compareDecomposition 1250 256 1 = ⟨250, 5⟩ ∧ compareDecomposition 977 256 1 = ⟨1, 977⟩
    ∧ compareDecomposition 977 256 2 = ⟨255, 4⟩ ∧ compareDecomposition 383 256 2 = ⟨255, 2⟩ := by
  decide +kernel

/-- The exact half goes up in CTC mode (2.5, `F_CPU = 1000`). -/
theorem test_raw_ticks :
    rawTicks .normal 100 1000000 1024000 = 97 ∧ rawTicks .ctc 100 1000000 1024000 = 98
    ∧ rawTicks .ctc 512 1000 1024000 = 1 ∧ rawTicks .ctc 511 1000 1024000 = 0 := by decide

theorem test_tsettime_normal :
    (after (execTsettime 0 0 100 (withT0 prescaled))).map (fun s => s.timers.get .t0) = some e3 := by decide

/-- `TSETTIME 0, CTC, 100` after `TSETTIME 0, NORMAL, 100`: `CNT` is left, `HWCTL = 0x108` (2.5). -/
theorem test_tsettime_ctc :
    reads (execTsettime 0 1 100 (withT0 e3)) .hwctl = some 0x108
    ∧ reads (execTsettime 0 1 100 (withT0 e3)) .cfg = some 0x1D
    ∧ reads (execTsettime 0 1 100 (withT0 e3)) .cnt = some 159
    ∧ reads (execTsettime 0 1 100 (withT0 e3)) .ocr = some 98 := by decide +kernel

/-! ### Registry, run control, PWM (2.6, 2.7, 2.8) -/

theorem test_tsetcb :
    reads (execTsetcb 0 0x1234 0xABCD State.reset) .callback = some 0x1234ABCD
    ∧ reads (execTsetcb 0 0x1234 0xABCD State.reset) .cfg = some 0x40
    ∧ answer (execTsetcb 0 0 0xABCD State.reset) = some (.response .nullCallback 0) := by decide
theorem test_tstart :
    reads (execTstart 0 (withT0 { e3 with cbFn := 1 })) .cfg = some 0x65
    ∧ reads (execTstart 0 (withT0 e3)) .hwctl = some 0x085
    ∧ answer (execTstart 0 (withT0 prescaled)) = some (.response .invalidPrescaler 0) := by decide
theorem test_tstop :
    reads (execTstop 0 (withT0 p2)) .cfg = some 0x5A ∧ reads (execTstop 0 (withT0 p2)) .hwctl = some 0x108
    ∧ (after (execTstop 0 State.reset)).map (fun s => s.timers) = some State.reset.timers := by decide
theorem test_tpwmf :
    reads (execTpwmf 0 1 100 State.reset) .hwctl = some 0x070
    ∧ reads (execTpwmf 0 0 50 State.reset) .ocr = some 128
    ∧ answer (execTpwmf 0 2 0 State.reset) = some (.response .invalidDutyCycle 0)
    ∧ answer (execTpwmf 2 0 50 State.reset) = some (.response .invalidTimer 0) := by decide
theorem test_tpwmp :
    ((after (execTpwmp 1 0 25 State.reset)).map fun s => readTimerReg (s.timers.get .t1) .hwctl) = some 0x058
    ∧ ((after (execTpwmp 1 0 50 State.reset)).map fun s => (s.timers.get .t1).ocr) = some 512
    ∧ answer (execTpwmp 0 3 50 State.reset) = some (.response .invalidPwmPolarity 0) := by decide

/-! ### System (2.9) -/

theorem test_tiret :
    answer (execTiret State.reset) = some (.response .illegalCommand 0)
    ∧ (after (execTiret { State.reset with inService := some (.t0, .ovf) })).map (fun s => s.inService)
        = some none := by decide
theorem test_trd :
    answer (execTrd 0 0x11 State.reset) = some (.response .ok 0xF4240)
    ∧ answer (execTrd 0 0x04 (withT0 prescaled)) = some (.response .ok 0xFA000)
    ∧ answer (execTrd 0 0x10
        { State.reset with gie := true, initDone := true, inService := some (.t1, .cmp) })
        = some (.response .ok 0x2F)
    ∧ answer (execTrd 1 0x10 State.reset) = some (.response .illegalCommand 0)
    ∧ answer (execTrd 1 0 (State.resetWith onlyT0)) = some (.response .invalidTimer 0) := by decide

/-! ### Ticks and dispatches (2.10) -/

theorem test_tick_overflow :
    reads (tickStep .t0 (withT0 { p1 with cnt := 255 })) .hwctl = some 0x285
    ∧ reads (tickStep .t0 (withT0 { p1 with cnt := 255 })) .cnt = some 0
    ∧ reads (tickStep .t0 (withT0 { p1 with cnt := 254 })) .hwctl = some 0x085 := by decide
theorem test_tick_compare :
    reads (tickStep .t0 (withT0 { p2 with cnt := 249 })) .cnt = some 0
    ∧ reads (tickStep .t0 (withT0 { p2 with cnt := 249 })) .hwctl = some 0x50A
    ∧ reads (tickStep .t0 (withT0 { p2 with cnt := 250 })) .cnt = some 251
    ∧ reads (tickStep .t0 (withT0 { p2 with cnt := 255 })) .hwctl = some 0x10A := by decide
theorem test_dispatch_completes :
    answer (dispatchStep .t0 .ovf (serving { p1 with cnt := 3, pendOvf := true }))
      = some (.invoke .t0 0x1234 0xABCD)
    ∧ reads (dispatchStep .t0 .ovf (serving { p1 with cnt := 3, pendOvf := true })) .cnt = some 159
    ∧ (after (dispatchStep .t0 .ovf (serving { p1 with cnt := 3, pendOvf := true }))).map
        (fun s => readGlobalReg s .gstat) = some 0x7 := by decide
theorem test_dispatch_soft_tick :
    reads (dispatchStep .t0 .cmp (serving { p2 with curTicks := 3, pendCmp := true })) .curticks = some 4
    ∧ reads (dispatchStep .t0 .cmp (serving { p2 with curTicks := 0xFFFFFFFF, pendCmp := true })) .curticks
        = some 0
    ∧ stopped (dispatchStep .t0 .cmp (withT0 { p2 with pendCmp := true })) = some .dispatchNotEnabled := by
  decide

/-! ### Codes and primitives (60_exceptions.md R122, 20_memory.md R49) -/

theorem test_status_codes :
    [Status.ok, .invalidTimer, .invalidMode, .invalidInterval, .nullCallback, .invalidPrescaler,
      .invalidPwmPolarity, .invalidDutyCycle, .illegalCommand].map (fun s => (statusCode s).toNat)
      = [0, 1, 2, 3, 4, 5, 6, 7, 15] := by decide
theorem test_bit_primitives :
    primRead 0x5A = 0x5A ∧ primWrite 0x5A 0x21 = 0x21 ∧ primSetBit 0x01 7 = 0x81
    ∧ primClearBit 0xFF 0 = 0xFE ∧ primTestBit 0x08 3 = true ∧ primTestBit 0x08 2 = false := by decide
theorem test_tick_time_ms : tickTimeMs (withT0 prescaled) .t0 = 1024 / 1000 := by
  show ((1024000 : Nat) : Rat) / ((1000000 : Nat) : Rat) = 1024 / 1000
  norm_num

/-- A driver's `LADDER` (00_scope.md R12). -/
theorem test_ladder_of_vectors_is_specialised : Config.vectors.specialisedDriver := by
  intro ms
  simp [Config.ladderHas, Config.vectors]

/-- A single-point rung is in the ladder and its neighbour is not (2.5, `LADDER = {25, 50, 100, 6000}`). -/
theorem test_ladder_of_rungs :
    let c := { Config.vectors with ladder := [⟨25, 25⟩, ⟨50, 50⟩, ⟨100, 100⟩, ⟨6000, 6000⟩] }
    decompose c .t0 .normal 1024000 24 = none ∧ decompose c .t0 .normal 1024000 25 = some ⟨232, 1⟩ := by
  decide

/-! ### Stepping -/

/-- A word placed by withFetchWord is what the very next step runs. -/
theorem test_step_runs_placed_word :
    answer (step (State.reset.withFetchWord 64 0xA011000000000000)) = some (.response .ok 0xF4240) := by
  decide

/-! ### Witnesses: concrete states and operands that meet the hypotheses of each statement -/

/-- Id 3 names no timer. -/
theorem names_none_three (c : Config) : NamesNone c 3 := by
  intro id h
  cases id <;> exact absurd h.1 (by decide)

/-- A timer that is not enabled is not named. -/
theorem names_none_disabled : NamesNone onlyT0 1 := by
  intro id h
  cases id <;> first | exact absurd h.1 (by decide) | exact absurd h.2 (by decide)

theorem names_all :
    Names Config.vectors 0 .t0 ∧ Names Config.vectors 1 .t1 ∧ Names Config.vectors 2 .t2 := by
  unfold Names; decide

theorem witness_EncodeOfDecode : decode 0x1000000000000000 = .ok .tinit := by decide

theorem witness_IllegalWordsAreRejected :
    IllegalWord 0x0FFFFFFFFFFFFFFF ∧ IllegalWord 0xB000000000000000 ∧ IllegalWord 0x1000000000000001
    ∧ IllegalWord 0x3000000000010064 ∧ IllegalWord 0xA009000000000000 ∧ IllegalWord 0xA410000000000000
    ∧ ¬ IllegalWord 0xA008000000000000 ∧ ¬ IllegalWord 0x30000000000003E8 := by
  simp [IllegalWord, unusedFieldSet]

theorem witness_StepRunsOfferedStep :
    (offer State.reset (.cmd 0x1000000000000000)).agenda = [.cmd 0x1000000000000000]
    ∧ decode 0x1000000000000000 = .ok .tinit := by decide

theorem witness_FreeStepIsEnabled : State.reset.agenda = [] := by decide

theorem witness_TinitIsIdempotent :
    (after (exec .tinit State.reset)).isSome = true := by decide

theorem witness_TprescRule :
    Names (withT0 p1).config 0 .t0
    ∧ ((0 : BitVec 8).toNat = 0 ∧ 5 < (6 : BitVec 8).toNat ∧ 5 < (255 : BitVec 8).toNat)
    ∧ (1 ≤ (1 : BitVec 8).toNat ∧ (5 : BitVec 8).toNat ≤ 5)
    ∧ ((withT0 p1).timers.get .t0).cs ≠ .off ∧ ((withT0 e3).timers.get .t0).cs = .off := by
  unfold Names; decide

/-- Boundary intervals at 1 MHz and divisor 1024: 1 ms is rejected, 2 ms and 65535 ms are not. -/
theorem witness_TsettimeRule :
    Names (withT0 e3).config 0 .t0
    ∧ (2 ≤ (2 : BitVec 2).toNat ∧ (1 : BitVec 2).toNat ≤ 1)
    ∧ ((withT0 Timer.reset).timers.get .t0).presc = .off ∧ ((withT0 e3).timers.get .t0).presc ≠ .off
    ∧ ((withT0 p1).timers.get .t0).cs ≠ .off ∧ ((withT0 e3).timers.get .t0).cs = .off
    ∧ IntervalRejected Config.vectors 1 (rawOf 0 1 1000000 1024000)
    ∧ IntervalRejected Config.vectors 0 (rawOf 1 0 1000000 1024000)
    ∧ ¬ IntervalRejected Config.vectors 2 (rawOf 0 2 1000000 1024000)
    ∧ ¬ IntervalRejected Config.vectors 65535 (rawOf 1 65535 1000000 1024000) := by
  unfold Names IntervalRejected InLadder; decide

theorem witness_TsetcbRule : Names State.reset.config 2 .t2 ∧ (1 : Half) ≠ 0 := by
  unfold Names; decide

theorem witness_TstartRule :
    Names (withT0 e3).config 0 .t0 ∧ ((withT0 prescaled).timers.get .t0).st = .unconfigured
    ∧ ((withT0 e3).timers.get .t0).st ≠ .unconfigured := by
  unfold Names; decide

theorem witness_TstopRule : Names (withT0 p1).config 0 .t0 ∧ ((withT0 p1).timers.get .t0).st = .running := by
  unfold Names; decide

/-- For `TPWMF` and `TPWMP`: timer 2 and id 3 name nothing PWM-capable, timer 1 does. -/
theorem witness_DutyRule :
    (∀ id, Names Config.vectors 2 id → id = .t2) ∧ Names Config.vectors 1 .t1 ∧ TimerId.t1 ≠ .t2
    ∧ (100 < (101 : BitVec 8).toNat ∧ (100 : BitVec 8).toNat ≤ 100 ∧ 1 ≤ (1 : BitVec 8).toNat)
    ∧ (2 ≤ (2 : BitVec 2).toNat ∧ (1 : BitVec 2).toNat ≤ 1) := by
  refine ⟨fun id h => ?_, names_all.2.1, by decide⟩
  cases id <;> first | rfl | exact absurd h.1 (by decide)

theorem witness_TiretRule :
    State.reset.inService = none
    ∧ ({ State.reset with inService := some (.t1, .cmp) } : State).inService ≠ none := by decide

theorem witness_TrdRule :
    (0x10 : BitVec 8).toNat = 0x10 ∧ (0x11 : BitVec 8).toNat = 0x11 ∧ (8 : BitVec 8).toNat ≤ 8
    ∧ 8 < (9 : BitVec 8).toNat ∧ 8 < (0x12 : BitVec 8).toNat ∧ (1 : BitVec 2) ≠ 0
    ∧ Names State.reset.config 0 .t0 := by
  unfold Names; decide

theorem witness_RawTicksRounding : 0 < 1000 ∧ 0 < 1024000 := by decide

theorem witness_OverflowRoundTrip :
    1 ≤ 1 ∧ 1 ≤ 2 ^ 32 - 1 ∧ 2 ^ 32 - 1 < 2 ^ 32
    ∧ overflowDecomposition (2 ^ 32 - 1) (cap .t1) = ⟨1, 65536⟩ := by decide

theorem witness_CompareDecompositionIsLargestDivisor :
    compareDecomposition 1 (cap .t2) (dmin .t2) = ⟨255, 1⟩
    ∧ Admissible 510 (capacity .t2) (minDivisor .t2) 255
    ∧ (minDivisor .t2 ≤ 255 ∧ 255 ≤ capacity .t2 - 1) := by
  unfold Admissible; decide +kernel

theorem witness_FallbackOnlyOnTimerTwo :
    divisorSearch 257 (dmin .t2) (cap .t2 - 1) = none ∧ 128 ≤ 257 ∧ TimerId.t0 ≠ .t2 := by decide +kernel

theorem witness_DutyCompareRange : 1 ≤ 1 ∧ 100 ≤ 100 ∧ 50 ≤ 255 ∧ pwmCompare 1 255 = 3 := by decide

/-- A state in each of the three clauses: off, on in a PWM mode, on in an interval mode. -/
theorem witness_TickEnabledExactly :
    ¬ ((withT0 e3).timers.get .t0).cs ≠ .off
    ∧ ((withT0 { p1 with wgm := .fastPwm }).timers.get .t0).cs ≠ .off
    ∧ ((withT0 { p1 with wgm := .fastPwm }).timers.get .t0).wgm = .fastPwm
    ∧ (withT0 p1).config.enabled.get .t0 = true ∧ ((withT0 p1).timers.get .t0).cs ≠ .off
    ∧ ((withT0 p1).timers.get .t0).wgm = .normal := by decide

theorem witness_NormalTickRule :
    (withT0 p1).config.enabled.get .t0 = true ∧ ((withT0 p1).timers.get .t0).cs ≠ .off
    ∧ ((withT0 p1).timers.get .t0).wgm = .normal ∧ ((withT0 p1).timers.get .t0).cnt.toNat < capacity .t0
    ∧ 97 ≤ capacity .t0 - ((withT0 p1).timers.get .t0).cnt.toNat := by decide

theorem witness_CtcTickRule :
    (withT0 p2).config.enabled.get .t0 = true ∧ ((withT0 p2).timers.get .t0).cs ≠ .off
    ∧ ((withT0 p2).timers.get .t0).wgm = .ctc := by decide

/-- From 0 the first match is tick 250, from the compare value itself tick 256. -/
theorem witness_FirstCompareMatch :
    (withT0 p2).config.enabled.get .t0 = true ∧ ((withT0 p2).timers.get .t0).cs ≠ .off
    ∧ ((withT0 p2).timers.get .t0).wgm = .ctc ∧ ((withT0 p2).timers.get .t0).cnt.toNat = 0
    ∧ ((withT0 p2).timers.get .t0).ocr.toNat = 250 ∧ 250 < capacity .t0
    ∧ ((withT0 { p2 with cnt := 250 }).timers.get .t0).cnt.toNat = 250
    ∧ (if 0 < 250 then 250 - 0 else capacity .t0 - 0 + 250) = 250
    ∧ (if 250 < 250 then 250 - 250 else capacity .t0 - 250 + 250) = 256 := by decide

theorem witness_OverrunLosesEvent :
    overruns (withT0 { p1 with cnt := 255, pendOvf := true }) .t0
    ∧ (after (runMove (.tick .t0) (withT0 { p1 with cnt := 255, pendOvf := true }))).isSome = true :=
  ⟨⟨.ovf, by decide, by decide⟩, by decide⟩

theorem witness_DispatchEnabledExactly :
    dispatchEnabled (serving { p1 with pendOvf := true }) .t0 .ovf = true
    ∧ dispatchEnabled (serving { p2 with pendCmp := true }) .t0 .cmp = true
    ∧ dispatchEnabled (serving { p1 with pendOvf := true, ieOvf := false }) .t0 .ovf = false := by decide

/-- A dispatch of each kind: with an `Invoke`, without a callback, before the target. -/
theorem witness_DispatchRule :
    (after (runMove (.dispatch .t0 .ovf) (serving { p1 with pendOvf := true }))).isSome = true
    ∧ p1.curTicks + 1 = p1.tickCount ∧ p1.cbFn ≠ 0
    ∧ (after (runMove (.dispatch .t0 .cmp) (serving { p2 with pendCmp := true }))).isSome = true
    ∧ p2.curTicks + 1 ≠ p2.tickCount := by decide

theorem witness_DispatchesNeverNest :
    ({ serving p1 with inService := some (.t0, .ovf) } : State).inService ≠ none
    ∧ (after (runMove (.cmd 0x9000000000000000)
        { serving p1 with inService := some (.t0, .ovf) })).isSome = true := by decide

/-- Before the target (5 dispatches from 0), and a stale accumulator at the target (R155). -/
theorem witness_FirstCompletingDispatch :
    p2.curTicks.toNat = 0 ∧ p2.tickCount.toNat = 5 ∧ 1 ≤ 5 ∧ 4 < (if 0 < 5 then 5 - 0 else 2 ^ 32 - 0 + 5)
    ∧ ({ p2 with curTicks := 5 } : Timer).curTicks.toNat = 5
    ∧ 2 ^ 32 - 1 < (if 5 < 5 then 5 - 5 else 2 ^ 32 - 5 + 5) := by decide

theorem witness_NormalIntervalIsExact :
    Servable (serving p1) .t0 ∧ p1.wgm = .normal ∧ p1.ieOvf = true ∧ p1.pendOvf = false
    ∧ p1.cnt = p1.preload ∧ p1.preload.toNat < capacity .t0 ∧ p1.curTicks = 0 ∧ p1.tickCount.toNat = 1 := by
  unfold Servable; decide

theorem witness_CtcIntervalIsExact :
    Servable (serving p2) .t0 ∧ p2.wgm = .ctc ∧ p2.ieCmp = true ∧ p2.pendCmp = false ∧ p2.cnt = 0
    ∧ p2.ocr.toNat = 250 ∧ 250 < capacity .t0 ∧ p2.curTicks = 0 ∧ p2.tickCount.toNat = 5 := by
  unfold Servable; decide

/-- For ErrorStatusWritesNothing, OnlyWritersWrite, OtherTimersUntouched and LifecycleTransitions: steps
that go on, one that answers an error, one that writes its timer, one of each lifecycle transition. -/
theorem witness_steps_go_on :
    answer (runMove (.cmd 0x5000000000000000) State.reset) = some (.response .invalidPrescaler 0)
    ∧ (after (runMove (.cmd 0x3000000000000064) (withT0 prescaled))).map (fun s => (s.timers.get .t0).st)
        = some .configured
    ∧ (after (runMove (.cmd 0x5000000000000000) (withT0 e3))).map (fun s => (s.timers.get .t0).st)
        = some .running
    ∧ (after (runMove (.cmd 0x6000000000000000) (withT0 p1))).map (fun s => (s.timers.get .t0).st)
        = some .configured
    ∧ (after (runMove (.tick .t0) (withT0 p1))).isSome = true := by decide

/-- For GlobalEnableNeverCleared, DisabledTimersAndParametersKept and InvariantIsKept: a step that sets
the enable, in a state that meets the invariant, with a timer outside `ENABLED`. -/
theorem witness_step_sets_enable :
    (after (step (offer (State.resetWith onlyT0) (.cmd 0x1000000000000000)))).map (fun s => s.gie) = some true
    ∧ (State.resetWith onlyT0).config.enabled.get .t1 = false := by decide

/-- A running timer meets the invariant (P1 after step 5). -/
theorem witness_InvariantIsKept : Inv (serving p1) where
  timers t := by
    cases t <;> constructor <;> decide
  disabled t h := by cases t <;> exact absurd h (by decide)
  inService t src h := by cases h

theorem witness_CommandsIgnoreContext :
    Instr.trd 0 0x11 ≠ .tiret ∧ ∀ t, Instr.trd 0 0x11 ≠ .trd t 0x10 := by decide

theorem witness_InitialisationSequence :
    Names Config.vectors 0 .t0 ∧ 1 ≤ (5 : BitVec 8).toNat ∧ (5 : BitVec 8).toNat ≤ 5
    ∧ (0 : BitVec 2).toNat ≤ 1 ∧ (0x1234 : Half) ≠ 0
    ∧ ¬ IntervalRejected Config.vectors (100 : Half).toNat
        (rawOf (0 : BitVec 2).toNat (100 : Half).toNat Config.vectors.fCpu.toNat
          (divisorOfCode (5 : BitVec 8).toNat * 1000))
    ∧ 1 ≤ (1 : BitVec 8).toNat ∧ (1 : BitVec 2).toNat ≤ 1
    ∧ ¬ IntervalRejected Config.vectors (65535 : Half).toNat
        (rawOf (1 : BitVec 2).toNat (65535 : Half).toNat Config.vectors.fCpu.toNat
          (divisorOfCode (1 : BitVec 8).toNat * 1000)) := by
  unfold Names IntervalRejected InLadder; decide

/-- Program P4, the `TRECONF` of its steps 9 to 11 (a running timer, Normal mode, 3 ms: `raw = 375`), and of
its steps 3 to 5 (CTC mode, 8 ms: `raw = 1000`). -/
theorem witness_ReconfigurationSequence :
    Names (withT0 p2).config 0 .t0 ∧ (0 : BitVec 2).toNat ≤ 1 ∧ (1 : BitVec 2).toNat ≤ 1
    ∧ ((withT0 p2).timers.get .t0).presc ≠ .off
    ∧ 375 = rawOf (0 : BitVec 2).toNat (3 : Half).toNat (withT0 p2).config.fCpu.toNat
        ((withT0 p2).timers.get .t0).ttnum.toNat
    ∧ ¬ IntervalRejected (withT0 p2).config (3 : Half).toNat 375
    ∧ 1000 = rawOf (1 : BitVec 2).toNat (8 : Half).toNat (withT0 p2).config.fCpu.toNat
        ((withT0 p2).timers.get .t0).ttnum.toNat
    ∧ ¬ IntervalRejected (withT0 p2).config (8 : Half).toNat 1000 := by
  unfold Names IntervalRejected InLadder; decide

/-- One step for each way to stop that StopsOnlyWhereNoMeaning lists. -/
theorem test_stops :
    stopped (runMove (.cmd 0x2003000000000000) (withT0 p1)) = some .configWhileRunning
    ∧ stopped (runMove (.tick .t0) (withT0 { p1 with wgm := .phasePwm })) = some .tickInPwmMode
    ∧ stopped (runMove (.tick .t1) (withT0 p1)) = some .tickNotEnabled
    ∧ stopped (runMove (.dispatch .t0 .ovf) (serving p1)) = some .dispatchNotEnabled := by decide

/-- Timer 0's overflow dispatch is enabled, the dispatch of timer 1 is taken and holds it off, and then
timer 0 overflows again and again. -/
def heldOff : Nat → State
  | 0 => { setTimer (serving { p1 with pendOvf := true }) .t1 { p1 with pendOvf := true } with
      agenda := [.dispatch .t1 .ovf] }
  | _ => { serving { p1 with cnt := 255, pendOvf := true } with
      inService := some (.t1, .ovf), agenda := [.tick .t0] }

/-- Such a run is not fair: the enabled dispatch is not taken before the next event of its source (R168). -/
theorem test_held_off_is_not_fair : ¬ FairDispatch heldOff := by
  intro h
  obtain ⟨j, -, hj, hd⟩ := fairDispatch_taken_before_event (t := .t0) (src := .ovf) (n := 0) (k := 1) h
    (by decide) (by decide) ⟨by unfold takes; decide, by decide⟩
  obtain rfl : j = 0 := by omega
  exact absurd hd (by unfold takes; decide)

theorem witness_ZeroFrequencyIsRefused :
    ({ Config.vectors with fCpu := 0 } : Config).fCpu = 0 ∧ Config.vectors.wf = true := by decide

theorem witness_IntervalLengthInMilliseconds : 0 < 1024 ∧ 0 < 1000000 := by decide

end Sys2Proof.Tests
end

section
/-! Instantiation of the model with the open parameters (00_scope.md R9, 40_calibration.md R83). -/

namespace Sys2Proof.Machine

/-- Legal parameters have a CPU frequency that is not zero (00_scope.md R9). -/
theorem fCpu_ne_zero_of_wf {c : Config} (h : c.wf = true) : c.fCpu ≠ 0 := by
  simp only [Config.wf, Bool.and_eq_true, bne_iff_ne] at h
  obtain ⟨⟨⟨hf, -⟩, -⟩, -⟩ := h
  exact hf

/-- Legal parameters are instantiated to their reset state. -/
theorem instantiate_of_wf {c : Config} (h : c.wf = true) :
    State.instantiate c = some (State.resetWith c) := if_pos h

/-- Only legal parameters are instantiated. -/
theorem instantiate_of_not_wf {c : Config} (h : ¬ c.wf = true) : State.instantiate c = none := if_neg h

/-- Settles O49: with `F_CPU = 0` the parameters are not legal, and with legal ones `F_CPU` is a nonzero
word of 32 bits. -/
theorem zeroFrequencyIsRefused : Obligations.ZeroFrequencyIsRefused := by
  intro c
  constructor
  · intro hzero
    exact instantiate_of_not_wf fun hwf => fCpu_ne_zero_of_wf hwf hzero
  · intro hwf
    have hpos : 0 < c.fCpu.toNat :=
      Nat.pos_of_ne_zero fun h => fCpu_ne_zero_of_wf hwf (BitVec.eq_of_toNat_eq h)
    exact ⟨instantiate_of_wf hwf, hpos, c.fCpu.isLt⟩

end Sys2Proof.Machine
end

section
/-! What one step can write, said once: the writes of a step on one timer, and on the global state
(10_state.md R34, R35, R43). The statements about writers and frames below are read off it. -/

namespace Sys2Proof.Machine

open Sys2Proof.Claims

/-! ### Operands and dispatches -/

/-- A timer operand that names a timer names an enabled one (30_encoding.md R67). -/
theorem isEnabled_of_enabledTimer {c : Config} {x : BitVec 2} {t : TimerId}
    (h : enabledTimer c x = some t) : c.isEnabled t = true :=
  (enabledTimer_eq_some.mp h).2

theorem timerCode_toNat (t : TimerId) : (timerCode t).toNat = timerNumber t := by
  cases t <;> rfl

/-- A timer operand that names a timer is its id (30_encoding.md R67). -/
theorem toNat_of_enabledTimer {c : Config} {x : BitVec 2} {t : TimerId}
    (h : enabledTimer c x = some t) : x.toNat = timerNumber t := by
  rw [(enabledTimer_eq_some.mp h).1, timerCode_toNat]

theorem enabledTimer_of_pwmTimer {c : Config} {x : BitVec 2} {v : PwmVariant} {t : TimerId} {top : Nat}
    (h : pwmTimer c x v = some (t, top)) : enabledTimer c x = some t :=
  (pwmTimer_eq_some.mp h).1

theorem clockRuns_eq_false {r : Timer} : clockRuns r = false ↔ r.cs = .off := by
  simp [clockRuns]

theorem recalibrate_of_disabled {c : Config} {t : TimerId} (r : Timer) (h : c.isEnabled t = false) :
    recalibrate c t r = r := by
  simp [recalibrate, h]

@[simp] theorem takeInterrupt_gie (s : State) (t : TimerId) (src : Src) :
    (takeInterrupt s t src).gie = s.gie := by
  rcases takeInterrupt_cases s t src with ⟨-, -, h⟩ | ⟨-, h⟩ <;> rw [h] <;> rfl

@[simp] theorem takeInterrupt_initDone (s : State) (t : TimerId) (src : Src) :
    (takeInterrupt s t src).initDone = s.initDone := by
  rcases takeInterrupt_cases s t src with ⟨-, -, h⟩ | ⟨-, h⟩ <;> rw [h] <;> rfl

@[simp] theorem takeInterrupt_config (s : State) (t : TimerId) (src : Src) :
    (takeInterrupt s t src).config = s.config := by
  rcases takeInterrupt_cases s t src with ⟨-, -, h⟩ | ⟨-, h⟩ <;> rw [h] <;> rfl

theorem takeInterrupt_inService (s : State) (t : TimerId) (src : Src) :
    (takeInterrupt s t src).inService = some (t, src)
      ∨ (takeInterrupt s t src).inService = s.inService := by
  rcases takeInterrupt_cases s t src with ⟨-, -, h⟩ | ⟨-, h⟩
  · exact .inl (by rw [h]; rfl)
  · exact .inr (by rw [h]; rfl)

/-! ### The writes on one timer -/

/-- The writes on a timer: `TimerStep s t m r` says that the step `m`, run in `s`, may leave timer `t` as
`r`. Beside `kept` there is one constructor for each writer of the field partition (10_state.md R34). -/
inductive TimerStep (s : State) (t : TimerId) : Move → Timer → Prop where
  | kept (m) : TimerStep s t m (s.timers.get t)
  | tinit {w} (hw : decode w = .ok .tinit) :
      TimerStep s t (.cmd w) (recalibrate s.config t (s.timers.get t))
  | tpresc {w x code p} (hw : decode w = .ok (.tpresc x code)) (hx : enabledTimer s.config x = some t)
      (hp : prescOperand code = some p) (hc : (s.timers.get t).cs = .off) :
      TimerStep s t (.cmd w) (withPresc (s.timers.get t) p)
  | tsettime {w x mode ms md d} (hw : decode w = .ok (.tsettime x mode ms))
      (hx : enabledTimer s.config x = some t) (hm : modeOperand mode = some md)
      (hp : (s.timers.get t).presc ≠ .off)
      (hd : decompose s.config t md (s.timers.get t).ttnum.toNat ms.toNat = some d)
      (hc : (s.timers.get t).cs = .off) :
      TimerStep s t (.cmd w) (configured (s.timers.get t) md d)
  | tsetcb {w x fn ctx} (hw : decode w = .ok (.tsetcb x fn ctx)) (hx : enabledTimer s.config x = some t)
      (hf : fn ≠ 0) : TimerStep s t (.cmd w) (withCallback (s.timers.get t) fn ctx)
  | tstart {w x} (hw : decode w = .ok (.tstart x)) (hx : enabledTimer s.config x = some t)
      (hs : (s.timers.get t).st ≠ .unconfigured) : TimerStep s t (.cmd w) (started (s.timers.get t))
  | tstop {w x} (hw : decode w = .ok (.tstop x)) (hx : enabledTimer s.config x = some t) :
      TimerStep s t (.cmd w) (stopped (s.timers.get t))
  | tpwmf {w x pol percent top com} (hw : decode w = .ok (.tpwmf x pol percent))
      (hx : pwmTimer s.config x .fast = some (t, top)) (hp : percentAccepted percent = true)
      (hc : polarityOperand pol = some com) :
      TimerStep s t (.cmd w) (withPwm (s.timers.get t) .fast com (pwmCompare percent.toNat top))
  | tpwmp {w x pol percent top com} (hw : decode w = .ok (.tpwmp x pol percent))
      (hx : pwmTimer s.config x .phaseCorrect = some (t, top)) (hp : percentAccepted percent = true)
      (hc : polarityOperand pol = some com) :
      TimerStep s t (.cmd w) (withPwm (s.timers.get t) .phaseCorrect com (pwmCompare percent.toNat top))
  | normalTick (he : tickEnabled s t = true) (hw : (s.timers.get t).wgm = .normal) :
      TimerStep s t (.tick t) (normalTick t (s.timers.get t))
  | ctcTick (he : tickEnabled s t = true) (hw : (s.timers.get t).wgm = .ctc) :
      TimerStep s t (.tick t) (ctcTick t (s.timers.get t))
  | dispatch {src} (he : dispatchEnabled s t src = true) :
      TimerStep s t (.dispatch t src) (softTick (s.timers.get t) src)

/-- A write on one bank: the timer `u` is left as `r`, every other timer is kept (10_state.md R35). -/
theorem timerStep_set {s : State} {m : Move} {u : TimerId} {r : Timer} (h : TimerStep s u m r)
    (t : TimerId) : TimerStep s t m ((s.timers.set u r).get t) := by
  rcases eq_or_ne t u with rfl | hne
  · rwa [get_set_same]
  · rw [get_set_other _ _ hne]
    exact .kept m

/-- The effect of a command writes a timer as the field partition says. -/
theorem effect_timerStep {s s₁ : State} {w : CmdWord} {i : Instr} {d : Word} (hw : decode w = .ok i)
    (h : Effect s i s₁ d) (t : TimerId) : TimerStep s t (.cmd w) (s₁.timers.get t) := by
  cases h with
  | tinit => rw [initialise_get]; exact .tinit hw
  | tpresc hx hp hc => exact timerStep_set (.tpresc hw hx hp (clockRuns_eq_false.mp hc)) t
  | tsettime hx hm hp hd hc => exact timerStep_set (.tsettime hw hx hm hp hd (clockRuns_eq_false.mp hc)) t
  | tsetcb hx hf => exact timerStep_set (.tsetcb hw hx hf) t
  | tstart hx hs => exact timerStep_set (.tstart hw hx hs) t
  | tstop hx => exact timerStep_set (.tstop hw hx) t
  | tpwmf hx hp hc => exact timerStep_set (.tpwmf hw hx hp hc) t
  | tpwmp hx hp hc => exact timerStep_set (.tpwmp hw hx hp hc) t
  | tiret | trdGlobal | trdTimer => exact .kept _

/-- Everything a step can write on a timer. -/
theorem runMove_timerStep {m : Move} {s s' : State} (h : runMove m s = .next s') (t : TimerId) :
    TimerStep s t m (s'.timers.get t) := by
  rcases runMove_next h with ⟨w, st, rfl, -, rfl⟩ | ⟨w, i, s₁, d, rfl, hw, he, rfl⟩
      | ⟨u, rfl, he, ⟨hw, rfl⟩ | ⟨hw, rfl⟩⟩ | ⟨u, src, rfl, he, rfl⟩
  · exact .kept _
  · exact effect_timerStep hw he t
  · exact timerStep_set (.normalTick he hw) t
  · exact timerStep_set (.ctcTick he hw) t
  · rw [takeInterrupt_timers]
    exact timerStep_set (.dispatch he) t

/-- A timer outside `ENABLED` is never written (10_state.md R43). -/
theorem timerStep_disabled {s : State} {t : TimerId} {m : Move} {r : Timer} (h : TimerStep s t m r)
    (hd : s.config.isEnabled t = false) : r = s.timers.get t := by
  have not_on (he : s.config.isEnabled t = true) : r = s.timers.get t :=
    absurd he (by simp [hd])
  cases h with
  | kept => rfl
  | tinit => exact recalibrate_of_disabled _ hd
  | tpresc _ hx | tsettime _ hx | tsetcb _ hx | tstart _ hx | tstop _ hx =>
    exact not_on (isEnabled_of_enabledTimer hx)
  | tpwmf _ hx | tpwmp _ hx => exact not_on (isEnabled_of_enabledTimer (enabledTimer_of_pwmTimer hx))
  | normalTick he | ctcTick he => exact not_on (tickEnabled_iff.mp he).1
  | dispatch he => exact not_on (dispatchEnabled_iff.mp he).1

/-! ### The writes on the global state -/

/-- No command writes the parameters. -/
theorem effect_config {s s₁ : State} {i : Instr} {d : Word} (h : Effect s i s₁ d) :
    s₁.config = s.config := by
  cases h <;> rfl

/-- No step writes the parameters (70_reset_and_hazards.md R150). -/
theorem runMove_config {m : Move} {s s' : State} (h : runMove m s = .next s') : s'.config = s.config := by
  rcases runMove_next h with ⟨w, st, rfl, -, rfl⟩ | ⟨w, i, s₁, d, rfl, -, he, rfl⟩
      | ⟨t, rfl, -, ⟨-, rfl⟩ | ⟨-, rfl⟩⟩ | ⟨t, src, rfl, -, rfl⟩
  · rfl
  · exact (emit_config s₁ _).trans (effect_config he)
  · rfl
  · rfl
  · exact takeInterrupt_config s t src

/-- `TINIT` is the one command that writes `gie` and `init_done` (10_state.md R38, R39). -/
theorem effect_gie_initDone {s s₁ : State} {i : Instr} {d : Word} (h : Effect s i s₁ d) :
    i = .tinit ∨ (s₁.gie = s.gie ∧ s₁.initDone = s.initDone) := by
  cases h with
  | tinit => exact .inl rfl
  | _ => exact .inr ⟨rfl, rfl⟩

/-- `TINIT` is the one step that writes `gie` and `init_done` (10_state.md R34). -/
theorem runMove_gie_initDone {m : Move} {s s' : State} (h : runMove m s = .next s') :
    (IsCommand m fun i => i = .tinit) ∨ (s'.gie = s.gie ∧ s'.initDone = s.initDone) := by
  rcases runMove_next h with ⟨w, st, rfl, -, rfl⟩ | ⟨w, i, s₁, d, rfl, hw, he, rfl⟩
      | ⟨t, rfl, -, ⟨-, rfl⟩ | ⟨-, rfl⟩⟩ | ⟨t, src, rfl, -, rfl⟩
  · exact .inr ⟨rfl, rfl⟩
  · exact (effect_gie_initDone he).imp_left fun hi => ⟨w, i, rfl, hw, hi⟩
  · exact .inr ⟨rfl, rfl⟩
  · exact .inr ⟨rfl, rfl⟩
  · exact .inr ⟨takeInterrupt_gie s t src, takeInterrupt_initDone s t src⟩

/-- `TIRET` is the one command that writes `in_service`, and ends the invocation. -/
theorem effect_inService {s s₁ : State} {i : Instr} {d : Word} (h : Effect s i s₁ d) :
    s₁.inService = s.inService ∨ (s₁.inService = none ∧ i = .tiret) := by
  cases h with
  | tiret => exact .inr ⟨rfl, rfl⟩
  | _ => exact .inl rfl

/-- Everything a step can do to the invocation in service (10_state.md R34, R40). -/
theorem runMove_inService {m : Move} {s s' : State} (h : runMove m s = .next s') :
    s'.inService = s.inService
    ∨ (s'.inService = none ∧ IsCommand m fun i => i = .tiret)
    ∨ ∃ t src, m = .dispatch t src ∧ dispatchEnabled s t src = true ∧ s'.inService = some (t, src) := by
  rcases runMove_next h with ⟨w, st, rfl, -, rfl⟩ | ⟨w, i, s₁, d, rfl, hw, he, rfl⟩
      | ⟨t, rfl, -, ⟨-, rfl⟩ | ⟨-, rfl⟩⟩ | ⟨t, src, rfl, he, rfl⟩
  · exact .inl rfl
  · exact (effect_inService he).imp_right fun ⟨hn, hi⟩ => .inl ⟨hn, w, i, rfl, hw, hi⟩
  · exact .inl rfl
  · exact .inl rfl
  · rcases takeInterrupt_inService s t src with hs | hs
    · exact .inr (.inr ⟨t, src, rfl, he, hs⟩)
    · exact .inl hs

/-- Settles O40: a write on a timer is one on an enabled timer, and no step writes the parameters. -/
theorem disabledTimersAndParametersKept : Obligations.DisabledTimersAndParametersKept := by
  intro s s' h
  obtain ⟨htimers, -, -, -, hconfig, -⟩ := nextMove_state s
  refine ⟨(runMove_config h).trans hconfig, fun t hd => ?_⟩
  rw [← htimers]
  exact timerStep_disabled (runMove_timerStep h t) (by rw [hconfig]; exact hd)

/-- Settles O37: each writer of a timer is its own tick, its own dispatch, `TINIT`, or a command that
names it. -/
theorem otherTimersUntouched : Obligations.OtherTimersUntouched := by
  intro m s s' t h hne
  have hstep := runMove_timerStep h t
  generalize s'.timers.get t = r at hstep hne
  cases hstep with
  | kept => exact absurd rfl hne
  | normalTick | ctcTick => exact .inl rfl
  | dispatch => exact .inr (.inl ⟨_, rfl⟩)
  | tinit hw => exact .inr (.inr ⟨_, _, rfl, hw, .inl rfl⟩)
  | tpresc hw hx | tsettime hw hx | tsetcb hw hx | tstart hw hx | tstop hw hx =>
    exact .inr (.inr ⟨_, _, rfl, hw, .inr ⟨_, toNat_of_enabledTimer hx, by simp⟩⟩)
  | tpwmf hw hx | tpwmp hw hx =>
    exact .inr (.inr ⟨_, _, rfl, hw,
      .inr ⟨_, toNat_of_enabledTimer (enabledTimer_of_pwmTimer hx), by simp⟩⟩)

end Sys2Proof.Machine
end

section
/-! The field partition (10_state.md R34): for each field of a timer, the steps that write it. -/

namespace Sys2Proof.Machine

open Sys2Proof.Claims

/-- A flag that joining an event changes is set afterwards. -/
theorem or_eq_true_of_ne_left {flag event : Bool} (h : (flag || event) ≠ flag) :
    (flag || event) = true := by
  cases flag with
  | false => exact Bool.of_not_eq_false h
  | true => rfl

section Writers

variable {s : State} {t : TimerId} {m : Move} {r : Timer}

theorem presc_writer (h : TimerStep s t m r) (hne : r.presc ≠ (s.timers.get t).presc) :
    (s.timers.get t).cs = .off ∧ IsCommand m fun i => ∃ x c, i = .tpresc x c := by
  cases h with
  | tpresc hw _ _ hc => exact ⟨hc, _, _, rfl, hw, _, _, rfl⟩
  | _ => exact absurd rfl hne

theorem ttnum_writer (h : TimerStep s t m r) (hne : r.ttnum ≠ (s.timers.get t).ttnum) :
    (IsCommand m fun i => i = .tinit)
      ∨ ((s.timers.get t).cs = .off ∧ IsCommand m fun i => ∃ x c, i = .tpresc x c) := by
  cases h with
  | tinit hw => exact .inl ⟨_, _, rfl, hw, rfl⟩
  | tpresc hw _ _ hc => exact .inr ⟨hc, _, _, rfl, hw, _, _, rfl⟩
  | _ => exact absurd rfl hne

/-- The fields that only a configuration writes. -/
theorem configuration_writer (h : TimerStep s t m r)
    (hne : r.mode ≠ (s.timers.get t).mode ∨ r.preload ≠ (s.timers.get t).preload
      ∨ r.tickCount ≠ (s.timers.get t).tickCount ∨ r.ieOvf ≠ (s.timers.get t).ieOvf
      ∨ r.ieCmp ≠ (s.timers.get t).ieCmp) :
    (s.timers.get t).cs = .off ∧ IsCommand m fun i => ∃ x y z, i = .tsettime x y z := by
  cases h with
  | tsettime hw _ _ _ _ hc => exact ⟨hc, _, _, rfl, hw, _, _, _, rfl⟩
  | _ => simp at hne

theorem curTicks_writer (h : TimerStep s t m r) (hne : r.curTicks ≠ (s.timers.get t).curTicks) :
    ∃ src, m = .dispatch t src := by
  cases h with
  | dispatch => exact ⟨_, rfl⟩
  | _ => exact absurd rfl hne

theorem callback_writer (h : TimerStep s t m r)
    (hne : r.cbFn ≠ (s.timers.get t).cbFn ∨ r.cbCtx ≠ (s.timers.get t).cbCtx) :
    IsCommand m fun i => ∃ x f c, i = .tsetcb x f c := by
  cases h with
  | tsetcb hw => exact ⟨_, _, rfl, hw, _, _, _, rfl⟩
  | _ => simp at hne

theorem st_writer (h : TimerStep s t m r) (hne : r.st ≠ (s.timers.get t).st) :
    ((s.timers.get t).cs = .off ∧ IsCommand m fun i => ∃ x y z, i = .tsettime x y z)
      ∨ IsCommand m fun i => (∃ x, i = .tstart x) ∨ ∃ x, i = .tstop x := by
  cases h with
  | tsettime hw _ _ _ _ hc => exact .inl ⟨hc, _, _, rfl, hw, _, _, _, rfl⟩
  | tstart hw => exact .inr ⟨_, _, rfl, hw, .inl ⟨_, rfl⟩⟩
  | tstop hw => exact .inr ⟨_, _, rfl, hw, .inr ⟨_, rfl⟩⟩
  | _ => exact absurd rfl hne

/-- The live counter: a configuration writes it in Normal mode only, a dispatch only as the reload of a
completed overflow interval (60_exceptions.md R138). -/
theorem cnt_writer (h : TimerStep s t m r) (hne : r.cnt ≠ (s.timers.get t).cnt) :
    ((s.timers.get t).cs = .off ∧ IsCommand m fun i => ∃ x z, i = .tsettime x 0 z)
      ∨ m = .tick t
      ∨ (m = .dispatch t .ovf ∧ (s.timers.get t).curTicks + 1 = (s.timers.get t).tickCount) := by
  cases h with
  | normalTick | ctcTick => exact .inr (.inl rfl)
  | @tsettime w x mode ms md d hw _ hm _ _ hc =>
    cases md with
    | normal =>
      obtain rfl : mode = 0 := modeOperand_eq_some.mp hm
      exact .inl ⟨hc, _, _, rfl, hw, _, _, rfl⟩
    | ctc => exact absurd rfl hne
  | @dispatch src he =>
    by_cases hreload : completesInterval (s.timers.get t) = true ∧ src = .ovf
    · obtain ⟨hdone, rfl⟩ := hreload
      exact .inr (.inr ⟨rfl, completesInterval_iff.mp hdone⟩)
    · exact absurd (by simpa using fun hdone hsrc => absurd ⟨hdone, hsrc⟩ hreload) hne
  | _ => exact absurd rfl hne

/-- The compare register: a configuration writes it in CTC mode only. -/
theorem ocr_writer (h : TimerStep s t m r) (hne : r.ocr ≠ (s.timers.get t).ocr) :
    ((s.timers.get t).cs = .off ∧ IsCommand m fun i => ∃ x z, i = .tsettime x 1 z)
      ∨ IsCommand m fun i => (∃ x y z, i = .tpwmf x y z) ∨ ∃ x y z, i = .tpwmp x y z := by
  cases h with
  | @tsettime w x mode ms md d hw _ hm _ _ hc =>
    cases md with
    | normal => exact absurd rfl hne
    | ctc =>
      obtain rfl : mode = 1 := modeOperand_eq_some.mp hm
      exact .inl ⟨hc, _, _, rfl, hw, _, _, rfl⟩
  | tpwmf hw => exact .inr ⟨_, _, rfl, hw, .inl ⟨_, _, _, rfl⟩⟩
  | tpwmp hw => exact .inr ⟨_, _, rfl, hw, .inr ⟨_, _, _, rfl⟩⟩
  | _ => exact absurd rfl hne

theorem cs_writer (h : TimerStep s t m r) (hne : r.cs ≠ (s.timers.get t).cs) :
    IsCommand m fun i => (∃ x, i = .tstart x) ∨ ∃ x, i = .tstop x := by
  cases h with
  | tstart hw => exact ⟨_, _, rfl, hw, .inl ⟨_, rfl⟩⟩
  | tstop hw => exact ⟨_, _, rfl, hw, .inr ⟨_, rfl⟩⟩
  | _ => exact absurd rfl hne

theorem wgm_writer (h : TimerStep s t m r) (hne : r.wgm ≠ (s.timers.get t).wgm) :
    ((s.timers.get t).cs = .off ∧ IsCommand m fun i => ∃ x y z, i = .tsettime x y z)
      ∨ IsCommand m fun i => (∃ x y z, i = .tpwmf x y z) ∨ ∃ x y z, i = .tpwmp x y z := by
  cases h with
  | tsettime hw _ _ _ _ hc => exact .inl ⟨hc, _, _, rfl, hw, _, _, _, rfl⟩
  | tpwmf hw => exact .inr ⟨_, _, rfl, hw, .inl ⟨_, _, _, rfl⟩⟩
  | tpwmp hw => exact .inr ⟨_, _, rfl, hw, .inr ⟨_, _, _, rfl⟩⟩
  | _ => exact absurd rfl hne

theorem com_writer (h : TimerStep s t m r) (hne : r.com ≠ (s.timers.get t).com) :
    IsCommand m fun i => (∃ x y z, i = .tpwmf x y z) ∨ ∃ x y z, i = .tpwmp x y z := by
  cases h with
  | tpwmf hw => exact ⟨_, _, rfl, hw, .inl ⟨_, _, _, rfl⟩⟩
  | tpwmp hw => exact ⟨_, _, rfl, hw, .inr ⟨_, _, _, rfl⟩⟩
  | _ => exact absurd rfl hne

/-- The overflow flag: set by ticks, cleared by its own dispatch (10_state.md R32). -/
theorem pendOvf_writer (h : TimerStep s t m r) (hne : r.pendOvf ≠ (s.timers.get t).pendOvf) :
    (m = .tick t ∧ r.pendOvf = true) ∨ (m = .dispatch t .ovf ∧ r.pendOvf = false) := by
  cases h with
  | normalTick => exact .inl ⟨rfl, or_eq_true_of_ne_left hne⟩
  | @dispatch src he =>
    cases src with
    | ovf => exact .inr ⟨rfl, by simp⟩
    | cmp => simp at hne
  | _ => exact absurd rfl hne

/-- The compare-match flag: set by ticks, cleared by its own dispatch (10_state.md R32). -/
theorem pendCmp_writer (h : TimerStep s t m r) (hne : r.pendCmp ≠ (s.timers.get t).pendCmp) :
    (m = .tick t ∧ r.pendCmp = true) ∨ (m = .dispatch t .cmp ∧ r.pendCmp = false) := by
  cases h with
  | ctcTick => exact .inl ⟨rfl, or_eq_true_of_ne_left hne⟩
  | @dispatch src he =>
    cases src with
    | ovf => simp at hne
    | cmp => exact .inr ⟨rfl, by simp⟩
  | _ => exact absurd rfl hne

end Writers

/-- Settles O36, one writer lemma for each row of the table. -/
theorem onlyWritersWrite : Obligations.OnlyWritersWrite := by
  intro m s s' h
  refine ⟨fun t => ?_, fun hne => ?_, fun hne => ?_⟩
  · have hstep := runMove_timerStep h t
    exact ⟨presc_writer hstep, ttnum_writer hstep, configuration_writer hstep, curTicks_writer hstep,
      callback_writer hstep, st_writer hstep, cnt_writer hstep, ocr_writer hstep, cs_writer hstep,
      wgm_writer hstep, com_writer hstep, pendOvf_writer hstep, pendCmp_writer hstep⟩
  · rcases runMove_gie_initDone h with hinit | ⟨hgie, hdone⟩
    · exact hinit
    · exact hne.elim (absurd hgie) (absurd hdone)
  · rcases runMove_inService h with hkept | hiret | ⟨t, src, rfl, -, hs⟩
    · exact absurd hkept hne
    · exact .inl hiret
    · exact .inr ⟨t, src, rfl, hs⟩

end Sys2Proof.Machine
end

section
/-! Bounds of the decomposer and of the PWM compare value (41_decomposition.md R88, R91; 44_pwm.md R112):
what the invariant needs of a configuration. -/

namespace Sys2Proof.Machine

theorem cap_ge (t : TimerId) : 256 ≤ cap t := by cases t <;> decide

theorem toNat_ofNat_of_lt_cap {t : TimerId} {n : Nat} (h : n < cap t) : (BitVec.ofNat 16 n).toNat = n := by
  have := cap_le t
  rw [BitVec.toNat_ofNat]
  exact Nat.mod_eq_of_lt (by omega)

theorem ofNat_ne_zero {w n : Nat} (hone : 1 ≤ n) (hlt : n < 2 ^ w) : BitVec.ofNat w n ≠ 0 := by
  intro hz
  have hn := congrArg BitVec.toNat hz
  rw [BitVec.toNat_ofNat, Nat.mod_eq_of_lt hlt] at hn
  exact absurd hn (Nat.ne_of_gt hone)

/-- What the search finds is a positive divisor within its bounds (41_decomposition.md R89). -/
theorem divisorSearch_eq_some {raw dmin n d : Nat} (h : divisorSearch raw dmin n = some d) :
    0 < d ∧ dmin ≤ d ∧ d ≤ n ∧ raw % d = 0 := by
  induction n with
  | zero => cases h
  | succ n ih =>
    unfold divisorSearch at h
    split at h
    · cases h
    · next hmin =>
      split at h
      · next hdvd =>
        cases h
        exact ⟨Nat.succ_pos n, Nat.le_of_not_lt hmin, Nat.le_refl _, hdvd⟩
      · obtain ⟨hpos, hdmin, hle, hdvd⟩ := ih h
        exact ⟨hpos, hdmin, Nat.le_succ_of_le hle, hdvd⟩

/-- The reload value fits the counter and the target is between 1 and `raw` (41_decomposition.md R88). -/
theorem overflowDecomposition_bounds {raw cap : Nat} (hraw : 1 ≤ raw) (hcap : 0 < cap) :
    (overflowDecomposition raw cap).preload < cap
      ∧ 1 ≤ (overflowDecomposition raw cap).tickCount
      ∧ (overflowDecomposition raw cap).tickCount ≤ raw := by
  have hdiv : cap * (raw / cap) + raw % cap = raw := Nat.div_add_mod raw cap
  have hle : raw / cap ≤ cap * (raw / cap) := Nat.le_mul_of_pos_left _ hcap
  refine ⟨Nat.mod_lt _ hcap, ?_⟩
  unfold overflowDecomposition
  dsimp only
  split
  · exact ⟨Nat.le_add_left 1 _, by omega⟩
  · next hrem =>
    have hquot : 0 < raw / cap := Nat.div_pos (Nat.le_of_dvd hraw (Nat.dvd_of_mod_eq_zero (by omega))) hcap
    omega

/-- The compare value is at least 1 and fits the counter, the target is between 1 and `raw`
(41_decomposition.md R91). -/
theorem compareDecomposition_bounds {raw cap dmin : Nat} (hraw : 1 ≤ raw) (hcap : 2 ≤ cap) :
    1 ≤ (compareDecomposition raw cap dmin).preload
      ∧ (compareDecomposition raw cap dmin).preload < cap
      ∧ 1 ≤ (compareDecomposition raw cap dmin).tickCount
      ∧ (compareDecomposition raw cap dmin).tickCount ≤ raw := by
  unfold compareDecomposition
  split
  · next d hd =>
    obtain ⟨hpos, -, hle, hdvd⟩ := divisorSearch_eq_some hd
    have hquot : 0 < raw / d := Nat.div_pos (Nat.le_of_dvd hraw (Nat.dvd_of_mod_eq_zero hdvd)) hpos
    exact ⟨hpos, Nat.lt_of_le_pred (by omega) hle, hquot, Nat.div_le_self raw d⟩
  · have hround : roundHalfUp raw (cap - 1) ≤ raw := by
      refine Nat.le_of_lt_succ ((Nat.div_lt_iff_lt_mul (by omega)).mpr ?_)
      have hle : raw ≤ raw * (cap - 1) := Nat.le_mul_of_pos_right raw (by omega)
      have hmul : raw.succ * (2 * (cap - 1)) = 2 * (raw * (cap - 1)) + 2 * (cap - 1) := by
        rw [Nat.succ_eq_add_one]
        ring
      omega
    refine ⟨?_, ?_, Nat.le_max_left 1 _, Nat.max_le.mpr ⟨hraw, hround⟩⟩ <;> dsimp only <;> omega

/-- The pair of a configuration: it fits the counter and the 32 bits of the target, the target is at
least 1, and so is the compare value in CTC mode (10_state.md R24, 60_exceptions.md R132). -/
theorem decomposition_bounds (mode : Mode) (t : TimerId) {raw : Nat} (hraw : 1 ≤ raw) :
    (decomposition mode t raw).preload < cap t
      ∧ 1 ≤ (decomposition mode t raw).tickCount
      ∧ (decomposition mode t raw).tickCount ≤ raw
      ∧ (mode = .ctc → 1 ≤ (decomposition mode t raw).preload) := by
  cases mode with
  | normal =>
    obtain ⟨hpre, hone, hle⟩ := overflowDecomposition_bounds hraw (cap_pos t)
    exact ⟨hpre, hone, hle, fun h => by cases h⟩
  | ctc =>
    have hcap := cap_ge t
    obtain ⟨hpos, hpre, hone, hle⟩ :=
      compareDecomposition_bounds (cap := cap t) (dmin := dmin t) hraw (by omega)
    exact ⟨hpre, hone, hle, fun _ => hpos⟩

/-- An accepted request is the decomposition of a `raw_ticks` from 1 to 2^32 - 1 (R86, R93). -/
theorem decompose_eq_some {c : Config} {t : TimerId} {mode : Mode} {ttnum ms : Nat} {d : Decomposition}
    (h : decompose c t mode ttnum ms = some d) :
    ∃ raw, 1 ≤ raw ∧ raw < 2 ^ 32 ∧ d = decomposition mode t raw := by
  unfold decompose at h
  split at h
  · cases h
  · dsimp only at h
    split at h
    · cases h
    · next hraw =>
      cases h
      exact ⟨_, by omega, by omega, rfl⟩

/-- The top value fits the counter (00_scope.md R13). -/
theorem pwmTop_lt_cap {c : Config} {t : TimerId} {v : PwmVariant} {top : Nat}
    (h : pwmTop c t v = some top) : top < cap t := by
  cases t with
  | t0 =>
    obtain rfl : 255 = top := by simpa [pwmTop] using h
    decide
  | t1 => cases v <;> cases h <;> exact BitVec.isLt _
  | t2 => simp [pwmTop] at h

/-- The accepted duties (30_encoding.md R72). -/
theorem percentAccepted_iff {percent : BitVec 8} :
    percentAccepted percent = true ↔ 1 ≤ percent.toNat ∧ percent.toNat ≤ 100 := by
  simp [percentAccepted]

/-- The compare value is at most the top value (44_pwm.md R112). -/
theorem pwmCompare_le {percent top : Nat} (h : percent ≤ 100) : pwmCompare percent top ≤ top := by
  have := Nat.mul_le_mul_right top h
  unfold pwmCompare roundHalfUp
  omega

end Sys2Proof.Machine
end

section
/-! The invariant (Safety.lean): each write on one timer keeps it, and so does every step. A proof below
names the fields of the invariant its write touches; the others are those of the timer before. -/

namespace Sys2Proof

open Sys2Proof.Machine

/-! ### The invariant of one timer -/

/-- The reset timer: registers that are 0, and no divisor, no source and no clock (10_state.md R44). -/
theorem timerInv_reset (t : TimerId) : TimerInv t Timer.reset where
  ttnum_eq := rfl
  preload_lt := cap_pos t
  cnt_lt := cap_pos t
  ocr_lt := cap_pos t
  not_both_enables := by decide
  ieOvf_normal := by decide
  ieCmp_ctc := by decide
  unconfigured_idle := by decide
  clock_iff_running := by decide
  running_cs := by decide
  configured_presc := by decide
  configured_target := by decide
  configured_enable := by decide
  wgm_mode := by decide
  ctc_compare := by decide

section Writes

variable {t : TimerId} {r : Timer}

/-- A stopped clock is that of a timer that is not Running. -/
theorem st_ne_running (h : TimerInv t r) (hc : r.cs = .off) : r.st ≠ .running :=
  fun hs => h.clock_iff_running.mpr hs hc

theorem timerInv_recalibrate (c : Config) (h : TimerInv t r) : TimerInv t (recalibrate c t r) :=
  { h with
    ttnum_eq := by
      have := h.ttnum_eq
      simp [this] }

theorem timerInv_withPresc {p : Presc} (h : TimerInv t r) (hp : p ≠ .off) (hc : r.cs = .off) :
    TimerInv t (withPresc r p) :=
  { h with
    ttnum_eq := rfl
    running_cs := fun hs => (st_ne_running h hc hs).elim
    configured_presc := fun _ => hp }

/-- A configuration from a pair that fits leaves exactly the source of its mode enabled (10_state.md R24). -/
theorem timerInv_configured {mode : Mode} {d : Decomposition} (h : TimerInv t r) (hp : r.presc ≠ .off)
    (hc : r.cs = .off) (hfit : d.preload < cap t) (hone : 1 ≤ d.tickCount) (hlt : d.tickCount < 2 ^ 32)
    (hctc : mode = .ctc → 1 ≤ d.preload) : TimerInv t (configured r mode d) := by
  have hpre : (BitVec.ofNat 16 d.preload).toNat = d.preload := toNat_ofNat_of_lt_cap hfit
  exact
  { h with
    preload_lt := hpre.trans_lt hfit
    cnt_lt := by
      rw [configured_cnt]
      split
      · exact hpre.trans_lt hfit
      · exact h.cnt_lt
    ocr_lt := by
      rw [configured_ocr]
      split
      · exact hpre.trans_lt hfit
      · exact h.ocr_lt
    not_both_enables := by cases mode <;> simp [ovfEnableOf, cmpEnableOf]
    ieOvf_normal := by cases mode <;> simp [ovfEnableOf]
    ieCmp_ctc := by cases mode <;> simp [cmpEnableOf]
    unconfigured_idle := fun hs => by cases hs
    clock_iff_running := by simp [hc]
    running_cs := fun hs => by cases hs
    configured_presc := fun _ => hp
    configured_target := fun _ => ofNat_ne_zero hone hlt
    configured_enable := fun _ => by cases mode <;> simp [ovfEnableOf, cmpEnableOf]
    wgm_mode := fun _ => rfl
    ctc_compare := fun hw => by
      obtain rfl : mode = .ctc := by
        cases mode
        · cases hw
        · rfl
      exact ofNat_ne_zero (hctc rfl) (hfit.trans_le (cap_le t)) }

theorem timerInv_withCallback (fn ctx : Half) (h : TimerInv t r) : TimerInv t (withCallback r fn ctx) :=
  { h with }

theorem timerInv_started (h : TimerInv t r) (hs : r.st ≠ .unconfigured) : TimerInv t (started r) :=
  { h with
    unconfigured_idle := fun hs => by cases hs
    clock_iff_running := by simp [h.configured_presc hs]
    running_cs := fun _ => rfl
    configured_presc := fun _ => h.configured_presc hs
    configured_target := fun _ => h.configured_target hs
    configured_enable := fun _ => h.configured_enable hs }

theorem stopped_st_ne_running (r : Timer) : (stopped r).st ≠ .running := by
  rw [stopped_st]
  split
  · decide
  · assumption

/-- `TSTOP` keeps a timer configured or unconfigured (43_run_control.md R104). -/
theorem stopped_st_unconfigured {r : Timer} : (stopped r).st = .unconfigured ↔ r.st = .unconfigured := by
  rw [stopped_st]
  split
  · next hs => simp [hs]
  · rfl

theorem timerInv_stopped (h : TimerInv t r) : TimerInv t (stopped r) :=
  { h with
    unconfigured_idle := fun hs => by
      obtain ⟨hovf, hcmp, -, htarget⟩ := h.unconfigured_idle (stopped_st_unconfigured.mp hs)
      exact ⟨hovf, hcmp, rfl, htarget⟩
    clock_iff_running := iff_of_false (fun hc => hc rfl) (stopped_st_ne_running r)
    running_cs := fun hs => absurd hs (stopped_st_ne_running r)
    configured_presc := fun hs => h.configured_presc (mt stopped_st_unconfigured.mpr hs)
    configured_target := fun hs => h.configured_target (mt stopped_st_unconfigured.mpr hs)
    configured_enable := fun hs => h.configured_enable (mt stopped_st_unconfigured.mpr hs) }

theorem timerInv_withPwm {v : PwmVariant} {com : Com} {n : Nat} (h : TimerInv t r) (hn : n < cap t) :
    TimerInv t (withPwm r v com n) :=
  { h with
    ocr_lt := (toNat_ofNat_of_lt_cap hn).trans_lt hn
    wgm_mode := fun hw => by cases v <;> rcases hw with hw | hw <;> cases hw
    ctc_compare := fun hw => by cases v <;> cases hw }

/-- The compare value of an accepted duty fits the counter (44_pwm.md R112). -/
theorem timerInv_duty {c : Config} {x : BitVec 2} {v : PwmVariant} {top : Nat} {percent : BitVec 8}
    {com : Com} (h : TimerInv t r) (hx : pwmTimer c x v = some (t, top))
    (hp : percentAccepted percent = true) :
    TimerInv t (withPwm r v com (pwmCompare percent.toNat top)) :=
  have hle : pwmCompare percent.toNat top ≤ top := pwmCompare_le (percentAccepted_iff.mp hp).2
  timerInv_withPwm h (hle.trans_lt (pwmTop_lt_cap (pwmTimer_eq_some.mp hx).2))

theorem nextCount_lt (t : TimerId) (r : Timer) : (nextCount t r).toNat < cap t :=
  (nextCount_toNat t r).trans_lt (Nat.mod_lt _ (cap_pos t))

theorem timerInv_normalTick (h : TimerInv t r) : TimerInv t (normalTick t r) :=
  { h with cnt_lt := nextCount_lt t r }

theorem timerInv_ctcTick (h : TimerInv t r) : TimerInv t (ctcTick t r) :=
  { h with
    cnt_lt := by
      rw [ctcTick_cnt]
      split
      · exact cap_pos t
      · exact nextCount_lt t r }

theorem timerInv_softTick (src : Src) (h : TimerInv t r) : TimerInv t (softTick r src) :=
  { h with
    cnt_lt := by
      rw [softTick_cnt]
      split
      · exact h.preload_lt
      · exact h.cnt_lt }

end Writes

/-- Every write on a timer keeps its invariant. -/
theorem timerInv_timerStep {s : State} {t : TimerId} {m : Move} {r : Timer} (h : TimerStep s t m r)
    (hinv : TimerInv t (s.timers.get t)) : TimerInv t r := by
  cases h with
  | kept => exact hinv
  | tinit => exact timerInv_recalibrate s.config hinv
  | tpresc _ _ hp hc => exact timerInv_withPresc hinv (prescOperand_eq_some.mp hp).1 hc
  | tsettime _ _ _ hp hd hc =>
    obtain ⟨raw, hraw, hlt, rfl⟩ := decompose_eq_some hd
    obtain ⟨hfit, hone, hle, hctc⟩ := decomposition_bounds _ t hraw
    exact timerInv_configured hinv hp hc hfit hone (hle.trans_lt hlt) hctc
  | tsetcb => exact timerInv_withCallback _ _ hinv
  | tstart _ _ hs => exact timerInv_started hinv hs
  | tstop => exact timerInv_stopped hinv
  | tpwmf _ hx hp => exact timerInv_duty hinv hx hp
  | tpwmp _ hx hp => exact timerInv_duty hinv hx hp
  | normalTick => exact timerInv_normalTick hinv
  | ctcTick => exact timerInv_ctcTick hinv
  | dispatch => exact timerInv_softTick _ hinv

/-! ### The invariant of the block -/

/-- Every step of every kind keeps the invariant. -/
theorem inv_runMove {m : Move} {s s' : State} (hinv : Inv s) (h : runMove m s = .next s') : Inv s' where
  timers t := timerInv_timerStep (runMove_timerStep h t) (hinv.timers t)
  disabled t hd := by
    rw [runMove_config h] at hd
    exact (timerStep_disabled (runMove_timerStep h t) hd).trans (hinv.disabled t hd)
  inService t src hs := by
    rw [runMove_config h]
    rcases runMove_inService h with hkept | ⟨hnone, -⟩ | ⟨u, src', -, he, hu⟩
    · exact hinv.inService t src (hkept ▸ hs)
    · rw [hnone] at hs
      cases hs
    · obtain ⟨rfl, -⟩ : u = t ∧ src' = src := by simpa [hu] using hs
      exact (dispatchEnabled_iff.mp he).1

/-- The invariant does not speak of the offered steps and the free choices (log 2). -/
theorem inv_nextMove {s : State} (hinv : Inv s) : Inv (nextMove s).2 := by
  obtain ⟨htimers, -, -, hservice, hconfig, -⟩ := nextMove_state s
  exact
  { timers := by rw [htimers]; exact hinv.timers
    disabled := by rw [htimers, hconfig]; exact hinv.disabled
    inService := by rw [hservice, hconfig]; exact hinv.inService }

/-- Settles O45: each write on a timer keeps the invariant of the timer, no timer outside `ENABLED` is
written, and only an enabled timer's invocation comes into service. -/
theorem invariantIsKept : Obligations.InvariantIsKept :=
  fun _ _ hinv h => inv_runMove (inv_nextMove hinv) h

/-- Settles O46: the invariant of the reset timer, for all three. -/
theorem invariantAtReset : Obligations.InvariantAtReset := fun c =>
  { timers := fun t => by rw [resetWith_get]; exact timerInv_reset t
    disabled := fun t _ => resetWith_get c t
    inService := fun t src hs => by cases hs }

/-- Settles O48: every timer is the reset timer (10_state.md R42). -/
theorem resetIsZero : Obligations.ResetIsZero :=
  fun c => ⟨resetWith_get c, rfl, rfl, rfl⟩

end Sys2Proof
end

section
/-! The outputs are never read (10_state.md R41, log 3): every step, run with other outputs behind it,
gives the same outcome with the same outputs appended. -/

namespace Sys2Proof.Machine

/-- The state with other outputs behind it. -/
def withOutputs (s : State) (before : List Output) : State := { s with obs := before }

/-- The outcome of a step from a state with `n` outputs, had the outputs behind it been `before`. -/
def rebase (before : List Output) (n : Nat) :
    Host.Outcome State Fault Refusal → Host.Outcome State Fault Refusal
  | .next s' => .next (withOutputs s' (before ++ s'.obs.drop n))
  | .fault f => .fault f
  | .refused r => .refused r

section

variable (s : State) (before : List Output)

@[simp] theorem withOutputs_timers : (withOutputs s before).timers = s.timers := rfl
@[simp] theorem withOutputs_inService : (withOutputs s before).inService = s.inService := rfl
@[simp] theorem withOutputs_config : (withOutputs s before).config = s.config := rfl

/-! ### No operation reads the outputs -/

@[simp] theorem tickEnabled_withOutputs (t : TimerId) :
    tickEnabled (withOutputs s before) t = tickEnabled s t := rfl
@[simp] theorem dispatchEnabled_withOutputs (t : TimerId) (src : Src) :
    dispatchEnabled (withOutputs s before) t src = dispatchEnabled s t src := rfl
@[simp] theorem readGlobalReg_withOutputs (g : GlobalReg) :
    readGlobalReg (withOutputs s before) g = readGlobalReg s g := by
  cases g <;> rfl
@[simp] theorem setTimer_withOutputs (t : TimerId) (r : Timer) :
    setTimer (withOutputs s before) t r = withOutputs (setTimer s t r) before := rfl

/-! ### Every way to end a step only appends -/

theorem next_withOutputs : .next (withOutputs s before) = rebase before s.obs.length (.next s) := by
  simp [rebase]

theorem next_emit_withOutputs (o : Output) :
    .next (emit (withOutputs s before) o) = rebase before s.obs.length (.next (emit s o)) := by
  simp [rebase, emit, withOutputs]

theorem raise_withOutputs (status : Status) :
    raise status (withOutputs s before) = rebase before s.obs.length (raise status s) :=
  next_emit_withOutputs s before _

theorem accept_withOutputs (data : Word) :
    accept data (withOutputs s before) = rebase before s.obs.length (accept data s) :=
  next_emit_withOutputs s before _

theorem invokeCallback_withOutputs (t : TimerId) (src : Src) :
    .next (invokeCallback (withOutputs s before) t src)
      = rebase before s.obs.length (.next (invokeCallback s t src)) := by
  unfold invokeCallback
  dsimp only
  rw [withOutputs_timers]
  split
  · exact next_withOutputs s before
  · exact next_emit_withOutputs { s with inService := some (t, src) } before _

theorem takeInterrupt_withOutputs (t : TimerId) (src : Src) :
    .next (takeInterrupt (withOutputs s before) t src)
      = rebase before s.obs.length (.next (takeInterrupt s t src)) := by
  unfold takeInterrupt
  dsimp only
  rw [withOutputs_timers, setTimer_withOutputs]
  split
  · exact invokeCallback_withOutputs (setTimer s t _) before t src
  · exact next_withOutputs (setTimer s t _) before

/-! ### Every command -/

theorem setDuty_withOutputs (v : PwmVariant) (t pol : BitVec 2) (percent : BitVec 8) :
    setDuty v t pol percent (withOutputs s before)
      = rebase before s.obs.length (setDuty v t pol percent s) := by
  unfold setDuty
  rw [withOutputs_config]
  split
  · exact raise_withOutputs ..
  · split
    · split
      · exact raise_withOutputs ..
      · exact accept_withOutputs (setTimer s _ _) ..
    · exact raise_withOutputs ..

/-- Each branch of each command ends in `raise`, in `accept` or in a refusal. -/
theorem exec_withOutputs (i : Instr) :
    exec i (withOutputs s before) = rebase before s.obs.length (exec i s) := by
  cases i with
  | tinit => exact accept_withOutputs (initialise s) ..
  | tpresc t code =>
    simp only [exec, execTpresc]
    rw [withOutputs_config, withOutputs_timers]
    split
    · exact raise_withOutputs ..
    · split
      · exact raise_withOutputs ..
      · split
        · rfl
        · exact accept_withOutputs (setTimer s _ _) ..
  | tsettime t mode ms =>
    simp only [exec, execTsettime]
    rw [withOutputs_config, withOutputs_timers]
    split
    · exact raise_withOutputs ..
    · split
      · exact raise_withOutputs ..
      · split
        · exact raise_withOutputs ..
        · split
          · exact raise_withOutputs ..
          · split
            · rfl
            · exact accept_withOutputs (setTimer s _ _) ..
  | tsetcb t fn ctx =>
    simp only [exec, execTsetcb]
    rw [withOutputs_config]
    split
    · exact raise_withOutputs ..
    · split
      · exact raise_withOutputs ..
      · exact accept_withOutputs (setTimer s _ _) ..
  | tstart t =>
    simp only [exec, execTstart]
    rw [withOutputs_config, withOutputs_timers]
    split
    · exact raise_withOutputs ..
    · split
      · exact raise_withOutputs ..
      · exact accept_withOutputs (setTimer s _ _) ..
  | tstop t =>
    simp only [exec, execTstop]
    rw [withOutputs_config]
    split
    · exact raise_withOutputs ..
    · exact accept_withOutputs (setTimer s _ _) ..
  | tpwmf t pol percent => exact setDuty_withOutputs s before .fast t pol percent
  | tpwmp t pol percent => exact setDuty_withOutputs s before .phaseCorrect t pol percent
  | tiret =>
    simp only [exec, execTiret]
    rw [withOutputs_inService]
    split
    · exact raise_withOutputs ..
    · exact accept_withOutputs (returnFromInterrupt s) ..
  | trd t reg =>
    simp only [exec, execTrd]
    rw [withOutputs_config, withOutputs_timers]
    split
    · rw [readGlobalReg_withOutputs]
      split
      · exact accept_withOutputs ..
      · exact raise_withOutputs ..
    · split
      · split
        · exact raise_withOutputs ..
        · exact accept_withOutputs ..
      · exact raise_withOutputs ..

theorem runMove_withOutputs (m : Move) :
    runMove m (withOutputs s before) = rebase before s.obs.length (runMove m s) := by
  cases m with
  | cmd w =>
    simp only [runMove, commandStep]
    split
    · exact exec_withOutputs s before _
    · exact raise_withOutputs s before _
  | tick t =>
    simp only [runMove, tickStep]
    rw [tickEnabled_withOutputs, withOutputs_timers]
    split
    · cases (s.timers.get t).wgm with
      | normal | ctc => exact next_withOutputs (setTimer s t _) before
      | fastPwm | phasePwm => rfl
    · rfl
  | dispatch t src =>
    simp only [runMove, dispatchStep]
    rw [dispatchEnabled_withOutputs]
    split
    · exact takeInterrupt_withOutputs s before t src
    · rfl

end

/-- Settles O42: no operation reads the outputs, and every end of a step only appends to them. -/
theorem outputsAreNeverRead : Obligations.OutputsAreNeverRead := by
  intro m s before
  refine (runMove_withOutputs s before m).trans ?_
  cases runMove m s <;> rfl

end Sys2Proof.Machine
end

section
/-! The step the machine takes (20_memory.md R55, R56; log 2): the first offered one, and with nothing
offered a free choice that is always an enabled step. -/

namespace Sys2Proof.Machine

open Sys2Proof.Claims

/-! ### An offered step -/

/-- A step with something offered runs the first of it, with the rest left on the agenda. -/
theorem step_offered {s : State} {m : Move} {rest : List Move} (h : s.agenda = m :: rest) :
    step s = runMove m { s with agenda := rest } := by
  simp [step, nextMove_offered h]

/-- A command word that decodes runs its command (30_encoding.md R62). -/
theorem runMove_cmd_of_decode {w : CmdWord} {i : Instr} (h : decode w = .ok i) (s : State) :
    runMove (.cmd w) s = exec i s := by
  simp [runMove, commandStep, h]

/-- Settles O6: the agenda's head is the step run, and a word that decodes runs its command. -/
theorem stepRunsOfferedStep : Obligations.StepRunsOfferedStep := by
  intro s m rest hagenda
  refine ⟨step_offered hagenda, ?_⟩
  rintro w i rfl hdecode
  exact (step_offered hagenda).trans (runMove_cmd_of_decode hdecode _)

/-! ### A free step -/

/-- A step with nothing offered runs the free choice, with the choice counted. -/
theorem step_free {s : State} (h : s.agenda = []) :
    step s = runMove (freeMove s) { s with choices := s.choices + 1 } := by
  simp [step, nextMove_free h]

/-- What the free choice can be: one of the enabled ticks and dispatches, or, where the choice falls past
the last of them, a command. -/
theorem freeMove_cases (s : State) :
    freeMove s ∈ hardwareMoves.filter (moveEnabled s) ∨ ∃ w, freeMove s = .cmd w := by
  simp only [freeMove]
  generalize hardwareMoves.filter (moveEnabled s) = moves
  generalize Config.freeChoice s.choices % (moves.length + 1) = n
  rcases lt_or_ge n moves.length with hn | hn
  · rw [List.getD_eq_getElem _ _ hn]
    exact .inl (List.getElem_mem hn)
  · exact .inr ⟨_, List.getD_eq_default _ _ hn⟩

/-- The free choice is a step that is enabled; a command always is. -/
theorem moveEnabled_freeMove (s : State) : moveEnabled s (freeMove s) = true := by
  rcases freeMove_cases s with hmem | ⟨w, hw⟩
  · exact List.of_mem_filter hmem
  · rw [hw]
    rfl

/-- Settles O7: the free choice is enabled, and the conditions are those of R134 for a tick and those of
R137 for a dispatch. -/
theorem freeStepIsEnabled : Obligations.FreeStepIsEnabled := by
  intro s hagenda
  have henabled := moveEnabled_freeMove s
  refine ⟨freeMove s, step_free hagenda, fun t hm => ?_, fun t src hm => ?_⟩
  · rw [hm] at henabled
    exact tickEnabled_iff.mp henabled
  · rw [hm] at henabled
    obtain ⟨hon, hpend, hsrc, hgie, hnone⟩ := dispatchEnabled_iff.mp henabled
    refine ⟨hon, hgie, hnone, ?_, ?_⟩ <;> rintro rfl <;> exact ⟨hpend, hsrc⟩

end Sys2Proof.Machine
end

section
/-! The fields of a command word (30_encoding.md R63): they partition the word, and a mask acts on each of
them by itself. -/

namespace Sys2Proof

/-- The seven fields partition the word (30_encoding.md R63). -/
theorem fieldsWord_fields (w : CmdWord) :
    fieldsWord (opField w) (tField w) (mField w) (aField w) (zField w) (hiField w) (loField w) = w := by
  unfold fieldsWord opField tField mField aField zField hiField loField
  iterate 6 rw [BitVec.extractLsb'_append_extractLsb'_eq_extractLsb' (by rfl)]
  exact BitVec.extractLsb'_eq_self

/-- Two words with the same fields are the same word. -/
theorem word_ext_iff {v w : CmdWord} :
    v = w ↔ opField v = opField w ∧ tField v = tField w ∧ mField v = mField w ∧ aField v = aField w
      ∧ zField v = zField w ∧ hiField v = hiField w ∧ loField v = loField w := by
  constructor
  · rintro rfl
    exact ⟨rfl, rfl, rfl, rfl, rfl, rfl, rfl⟩
  · rintro ⟨hop, ht, hm, ha, hz, hhi, hlo⟩
    rw [← fieldsWord_fields v, hop, ht, hm, ha, hz, hhi, hlo, fieldsWord_fields]

/-! ### The fields of an assembled word

That of `op` is `Laws.EncodedOpcode.opField_fieldsWord`. -/

section Assembled

variable (op : BitVec 4) (t m : BitVec 2) (a : BitVec 8) (z : BitVec 16) (hi lo : Half)

@[simp] theorem tField_fieldsWord : tField (fieldsWord op t m a z hi lo) = t := by
  unfold tField fieldsWord
  iterate 5 rw [BitVec.extractLsb'_append_eq_of_le (by decide)]
  exact BitVec.extractLsb'_append_eq_right

@[simp] theorem mField_fieldsWord : mField (fieldsWord op t m a z hi lo) = m := by
  unfold mField fieldsWord
  iterate 4 rw [BitVec.extractLsb'_append_eq_of_le (by decide)]
  exact BitVec.extractLsb'_append_eq_right

@[simp] theorem aField_fieldsWord : aField (fieldsWord op t m a z hi lo) = a := by
  unfold aField fieldsWord
  iterate 3 rw [BitVec.extractLsb'_append_eq_of_le (by decide)]
  exact BitVec.extractLsb'_append_eq_right

@[simp] theorem zField_fieldsWord : zField (fieldsWord op t m a z hi lo) = z := by
  unfold zField fieldsWord
  iterate 2 rw [BitVec.extractLsb'_append_eq_of_le (by decide)]
  exact BitVec.extractLsb'_append_eq_right

@[simp] theorem hiField_fieldsWord : hiField (fieldsWord op t m a z hi lo) = hi := by
  unfold hiField fieldsWord
  rw [BitVec.extractLsb'_append_eq_of_le (by decide)]
  exact BitVec.extractLsb'_append_eq_right

@[simp] theorem loField_fieldsWord : loField (fieldsWord op t m a z hi lo) = lo :=
  BitVec.extractLsb'_append_eq_right

end Assembled

/-! ### The fields of a masked word, and the fields as numbers -/

section Word

variable (v w : CmdWord)

@[simp] theorem opField_and : opField (v &&& w) = opField v &&& opField w := BitVec.extractLsb'_and
@[simp] theorem tField_and : tField (v &&& w) = tField v &&& tField w := BitVec.extractLsb'_and
@[simp] theorem mField_and : mField (v &&& w) = mField v &&& mField w := BitVec.extractLsb'_and
@[simp] theorem aField_and : aField (v &&& w) = aField v &&& aField w := BitVec.extractLsb'_and
@[simp] theorem zField_and : zField (v &&& w) = zField v &&& zField w := BitVec.extractLsb'_and
@[simp] theorem hiField_and : hiField (v &&& w) = hiField v &&& hiField w := BitVec.extractLsb'_and
@[simp] theorem loField_and : loField (v &&& w) = loField v &&& loField w := BitVec.extractLsb'_and

theorem toNat_opField : (opField w).toNat = w.toNat / 2 ^ 60 := by
  rw [opField, BitVec.extractLsb'_toNat, Nat.shiftRight_eq_div_pow]
  exact Nat.mod_eq_of_lt (by omega)

theorem toNat_tField : (tField w).toNat = w.toNat / 2 ^ 58 % 4 := by
  rw [tField, BitVec.extractLsb'_toNat, Nat.shiftRight_eq_div_pow]

theorem toNat_mField : (mField w).toNat = w.toNat / 2 ^ 56 % 4 := by
  rw [mField, BitVec.extractLsb'_toNat, Nat.shiftRight_eq_div_pow]

theorem toNat_aField : (aField w).toNat = w.toNat / 2 ^ 48 % 256 := by
  rw [aField, BitVec.extractLsb'_toNat, Nat.shiftRight_eq_div_pow]

theorem toNat_zField : (zField w).toNat = w.toNat / 2 ^ 32 % 65536 := by
  rw [zField, BitVec.extractLsb'_toNat, Nat.shiftRight_eq_div_pow]

theorem toNat_hiField : (hiField w).toNat = w.toNat / 2 ^ 16 % 65536 := by
  rw [hiField, BitVec.extractLsb'_toNat, Nat.shiftRight_eq_div_pow]

theorem toNat_loField : (loField w).toNat = w.toNat % 65536 := by
  rw [loField, BitVec.extractLsb'_toNat, Nat.shiftRight_zero]

end Word

end Sys2Proof
end

section
/-! The rows of the opcode map (30_encoding.md R65) by the fields of the word: a row selects exactly the words
with its opcode and with zeros in the fields its format does not use, and these are the words that encode its
command. -/

namespace Sys2Proof

open Sys2Proof.Laws.EncodedOpcode (opField_fieldsWord)

/-- The opcode of a row (30_encoding.md R65). -/
def opcode : Op → BitVec 4
  | .tinit => 0x1
  | .tpresc => 0x2
  | .tsettime => 0x3
  | .tsetcb => 0x4
  | .tstart => 0x5
  | .tstop => 0x6
  | .tpwmf => 0x7
  | .tpwmp => 0x8
  | .tiret => 0x9
  | .trd => 0xA

/-- The fields that the format of the row does not use are zero: the formats G, T, P, S, C and W, in this
order (30_encoding.md R64). -/
def UnusedFieldsZero (w : CmdWord) : Op → Prop
  | .tinit | .tiret =>
    tField w = 0 ∧ mField w = 0 ∧ aField w = 0 ∧ zField w = 0 ∧ hiField w = 0 ∧ loField w = 0
  | .tstart | .tstop => mField w = 0 ∧ aField w = 0 ∧ zField w = 0 ∧ hiField w = 0 ∧ loField w = 0
  | .tpresc | .trd => mField w = 0 ∧ zField w = 0 ∧ hiField w = 0 ∧ loField w = 0
  | .tsettime => aField w = 0 ∧ zField w = 0 ∧ hiField w = 0
  | .tsetcb => mField w = 0 ∧ aField w = 0 ∧ zField w = 0
  | .tpwmf | .tpwmp => zField w = 0 ∧ hiField w = 0 ∧ loField w = 0

/-- The word has the opcode of the row, and zeros where its format asks for them. -/
def HasFormat (w : CmdWord) (op : Op) : Prop := opField w = opcode op ∧ UnusedFieldsZero w op

/-- Every command has a row. -/
theorem exists_row (op : Op) : ∃ r ∈ opcodeMap, r.op = op := by
  cases op <;> decide

/-- The rows differ in their opcodes (30_encoding.md R66). -/
theorem row_eq_of_opcode_eq :
    ∀ r₁ ∈ opcodeMap, ∀ r₂ ∈ opcodeMap, opcode r₁.op = opcode r₂.op → r₁ = r₂ := by decide

/-- The opcodes 0x1 to 0xA have a row, and no others do (30_encoding.md R65). -/
theorem exists_row_opcode_iff : ∀ x : BitVec 4,
    (∃ r ∈ opcodeMap, opcode r.op = x) ↔ ¬ (x.toNat = 0 ∨ 11 ≤ x.toNat) := by decide

/-! ### The words a row selects

The part of a mask that covers a field keeps the field. -/

theorem and_ones2 (x : BitVec 2) : x &&& 0x3#2 = x := BitVec.and_allOnes
theorem and_ones4 (x : BitVec 4) : x &&& 0xF#4 = x := BitVec.and_allOnes
theorem and_ones8 (x : BitVec 8) : x &&& 0xFF#8 = x := BitVec.and_allOnes
theorem and_ones16 (x : BitVec 16) : x &&& 0xFFFF#16 = x := BitVec.and_allOnes

/-- A row selects the words that have its opcode and its format: its mask and pattern, field by field. -/
theorem selects_iff_hasFormat {r : OpRow} (hr : r ∈ opcodeMap) (w : CmdWord) :
    r.selects w = true ↔ HasFormat w r.op := by
  simp only [OpRow.selects, beq_iff_eq, HasFormat, word_ext_iff, opField_and, tField_and, mField_and,
    aField_and, zField_and, hiField_and, loField_and]
  fin_cases hr <;>
    simp [UnusedFieldsZero, opcode, opField, tField, mField, aField, zField, hiField, loField,
      and_ones2, and_ones4, and_ones8, and_ones16]

/-- At most one row selects a word (30_encoding.md R66). -/
theorem row_unique {r₁ r₂ : OpRow} {w : CmdWord} (h₁ : r₁ ∈ opcodeMap) (h₂ : r₂ ∈ opcodeMap)
    (hw₁ : HasFormat w r₁.op) (hw₂ : HasFormat w r₂.op) : r₁ = r₂ :=
  row_eq_of_opcode_eq r₁ h₁ r₂ h₂ (hw₁.1.symm.trans hw₂.1)

/-- A word has the format of a command exactly when it is the encoding of that command with the operands
read from the word. -/
theorem hasFormat_iff_encode (w : CmdWord) (op : Op) : HasFormat w op ↔ encode (instrOf op w) = w := by
  rw [eq_comm, word_ext_iff]
  cases op <;> simp [HasFormat, UnusedFieldsZero, opcode, encode, instrOf, opField_fieldsWord]

/-- The row of a command. -/
def opOf : Instr → Op
  | .tinit => .tinit
  | .tpresc _ _ => .tpresc
  | .tsettime _ _ _ => .tsettime
  | .tsetcb _ _ _ => .tsetcb
  | .tstart _ => .tstart
  | .tstop _ => .tstop
  | .tpwmf _ _ _ => .tpwmf
  | .tpwmp _ _ _ => .tpwmp
  | .tiret => .tiret
  | .trd _ _ => .trd

/-- The operands of a command are read back from its encoding, each at its field. -/
theorem instrOf_encode (i : Instr) : instrOf (opOf i) (encode i) = i := by
  cases i <;> simp [opOf, instrOf, encode]

/-- The encoding of a command has the format of its row. -/
theorem hasFormat_encode (i : Instr) : HasFormat (encode i) (opOf i) :=
  (hasFormat_iff_encode _ _).mpr (congrArg encode (instrOf_encode i))

/-! ### The decoder -/

/-- A word of the format of a row decodes to the row's command (30_encoding.md R66). -/
theorem decode_of_hasFormat {r : OpRow} {w : CmdWord} (hr : r ∈ opcodeMap) (hw : HasFormat w r.op) :
    decode w = .ok (instrOf r.op w) := by
  unfold decode
  split
  · next r' hfind =>
    have hr' := List.mem_of_find?_eq_some hfind
    have hsel : r'.selects w = true := List.find?_some (p := fun r : OpRow => r.selects w) hfind
    rw [row_unique hr' hr ((selects_iff_hasFormat hr' w).mp hsel) hw]
  · next hfind =>
    exact absurd ((selects_iff_hasFormat hr w).mpr hw) (List.find?_eq_none.mp hfind r hr)

/-- A word of the format of no row is rejected (30_encoding.md R66). -/
theorem decode_of_no_format {w : CmdWord} (hw : ∀ r ∈ opcodeMap, ¬ HasFormat w r.op) :
    decode w = .error (rejection w) := by
  have hfind : opcodeMap.find? (fun r => r.selects w) = none :=
    List.find?_eq_none.mpr fun r hr => mt (selects_iff_hasFormat hr w).mp (hw r hr)
  simp only [decode, hfind]

/-- A word decodes only by a row whose format it has. -/
theorem hasFormat_of_decode {w : CmdWord} {i : Instr} (h : decode w = .ok i) :
    ∃ r ∈ opcodeMap, HasFormat w r.op ∧ instrOf r.op w = i := by
  by_contra! hno
  by_cases hw : ∃ r ∈ opcodeMap, HasFormat w r.op
  · obtain ⟨r, hr, hw⟩ := hw
    exact hno r hr hw (Except.ok.inj ((decode_of_hasFormat hr hw).symm.trans h))
  · push Not at hw
    rw [decode_of_no_format hw] at h
    cases h

/-- Settles O1: the encoding has the format of its command's row, and the operands are read back. -/
theorem decodeOfEncode : Obligations.DecodeOfEncode := by
  intro i
  obtain ⟨r, hr, hop⟩ := exists_row (opOf i)
  have hw : HasFormat (encode i) r.op := hop ▸ hasFormat_encode i
  rw [decode_of_hasFormat hr hw, hop, instrOf_encode]

/-- Settles O2: a word decodes by a row whose format it has, so no bit of it is lost. -/
theorem encodeOfDecode : Obligations.EncodeOfDecode := by
  intro w i h
  obtain ⟨r, -, hw, rfl⟩ := hasFormat_of_decode h
  exact (hasFormat_iff_encode w r.op).mp hw

/-- Settles O5: the ten words are evaluated. -/
theorem specWordsDecode : Obligations.SpecWordsDecode := by
  unfold Obligations.SpecWordsDecode
  decide

end Sys2Proof
end

section
/-! The illegal words (30_encoding.md R74): the ones that decode to no command, and the `TRD` of no
register. -/

namespace Sys2Proof.Machine

open Sys2Proof.Claims

/-- On a word with the opcode of a row, R74 (b) asks for the format of the row. -/
theorem unusedFieldSet_iff {w : CmdWord} {op : Op} (hop : opField w = opcode op) :
    unusedFieldSet w ↔ ¬ UnusedFieldsZero w op := by
  simp only [unusedFieldSet, ← toNat_opField, ← toNat_tField, ← toNat_mField, ← toNat_aField,
    ← toNat_zField, ← toNat_hiField, ← toNat_loField, hop]
  cases op <;> simp [UnusedFieldsZero, opcode, ← BitVec.toNat_inj] <;> tauto

/-- A word is illegal by R74 (a) or (b) exactly when it has the format of no row. -/
theorem reserved_or_unusedFieldSet_iff (w : CmdWord) :
    ((w.toNat / 2 ^ 60 = 0 ∨ 11 ≤ w.toNat / 2 ^ 60) ∨ unusedFieldSet w)
      ↔ ∀ r ∈ opcodeMap, ¬ HasFormat w r.op := by
  rw [← toNat_opField]
  by_cases hrow : ∃ r ∈ opcodeMap, opcode r.op = opField w
  · have hlegal := (exists_row_opcode_iff _).mp hrow
    obtain ⟨r, hr, hop⟩ := hrow
    rw [or_iff_right hlegal, unusedFieldSet_iff hop.symm]
    refine ⟨fun hset r' hr' hw => hset ?_, fun hno hz => hno r hr ⟨hop.symm, hz⟩⟩
    rw [← row_eq_of_opcode_eq r' hr' r hr (hw.1.symm.trans hop.symm)]
    exact hw.2
  · have hreserved := not_not.mp (mt (exists_row_opcode_iff _).mpr hrow)
    exact ⟨fun _ r hr hw => hrow ⟨r, hr, hw.1.symm⟩, fun _ => .inl hreserved⟩

/-- R74 (c) by the model's own check of the pair. -/
theorem namesRegister_eq_false {t : BitVec 2} {r : BitVec 8} :
    namesRegister t r = false
      ↔ ¬ (r.toNat ≤ 8 ∨ ((r.toNat = 16 ∨ r.toNat = 17) ∧ t.toNat = 0)) := by
  rw [← Bool.not_eq_true]
  simp [namesRegister, ← BitVec.toNat_inj]

/-- Of the commands only a `TRD` can be ill-formed. -/
theorem wf_instrOf_eq_false {w : CmdWord} {op : Op} (hop : opField w = opcode op) :
    (instrOf op w).wf = false
      ↔ (opField w).toNat = 10 ∧ namesRegister (tField w) (aField w) = false := by
  rw [hop]
  cases op <;> simp [instrOf, Instr.wf, opcode]

/-- A word of the format of no row is illegal (30_encoding.md R66). -/
theorem illegalWord_of_no_format {w : CmdWord} (hw : ∀ r ∈ opcodeMap, ¬ HasFormat w r.op) :
    IllegalWord w :=
  or_assoc.mp (.inl ((reserved_or_unusedFieldSet_iff w).mpr hw))

/-- A word of the format of a row is illegal exactly when the row's command is ill-formed. -/
theorem illegalWord_iff_of_hasFormat {r : OpRow} {w : CmdWord} (hr : r ∈ opcodeMap)
    (hw : HasFormat w r.op) : IllegalWord w ↔ (instrOf r.op w).wf = false := by
  have hab := mt (reserved_or_unusedFieldSet_iff w).mp fun hno => hno r hr hw
  rw [wf_instrOf_eq_false hw.1, namesRegister_eq_false, toNat_opField, toNat_tField, toNat_aField]
  exact or_assoc.symm.trans (or_iff_right hab)

/-- A word is illegal exactly when it decodes to no well-formed command (30_encoding.md R74, R75). -/
theorem illegalWord_iff_decode (w : CmdWord) :
    IllegalWord w ↔ ∀ i, decode w = .ok i → i.wf = false := by
  by_cases hw : ∃ r ∈ opcodeMap, HasFormat w r.op
  · obtain ⟨r, hr, hw⟩ := hw
    simp [illegalWord_iff_of_hasFormat hr hw, decode_of_hasFormat hr hw]
  · push Not at hw
    simp [illegalWord_of_no_format hw, decode_of_no_format hw]

/-! ### The answer -/

/-- The indices of the per-timer registers (20_memory.md R46). -/
theorem toNat_le_of_timerRegOfIndex {r : BitVec 8} {n : TimerReg} (h : timerRegOfIndex r = some n) :
    r.toNat ≤ 8 := by
  unfold timerRegOfIndex at h
  split at h <;> simp_all

/-- The indices of the global registers (20_memory.md R46). -/
theorem toNat_of_globalRegOfIndex {r : BitVec 8} {g : GlobalReg} (h : globalRegOfIndex r = some g) :
    r.toNat = 16 ∨ r.toNat = 17 := by
  unfold globalRegOfIndex at h
  split at h <;> simp_all

/-- A `TRD` of no register raises `IllegalCommand` (30_encoding.md R73). -/
theorem execTrd_of_no_register {t : BitVec 2} {reg : BitVec 8} (h : namesRegister t reg = false)
    (s : State) : execTrd t reg s = raise .illegalCommand s := by
  have hno := namesRegister_eq_false.mp h
  unfold execTrd
  split
  · next g hg =>
    exact if_neg fun ht => hno (.inr ⟨toNat_of_globalRegOfIndex hg, by simp [ht]⟩)
  · split
    · next n hn => exact absurd (.inl (toNat_le_of_timerRegOfIndex hn)) hno
    · rfl

/-- An ill-formed command raises `IllegalCommand`. -/
theorem exec_of_not_wf {i : Instr} (h : i.wf = false) (s : State) :
    exec i s = raise .illegalCommand s := by
  cases i with
  | trd t reg => exact execTrd_of_no_register h s
  | _ => cases h

/-- A word that decodes to no well-formed command answers `IllegalCommand` (30_encoding.md R62). -/
theorem commandStep_of_illegalWord {w : CmdWord} (h : IllegalWord w) (s : State) :
    commandStep w s = raise .illegalCommand s := by
  unfold commandStep
  split
  · next i hi => exact exec_of_not_wf ((illegalWord_iff_decode w).mp h i hi) s
  · rfl

/-- Settles O3: a row's mask and pattern ask for its opcode and its format, and the rows differ in their
opcodes. -/
theorem atMostOneRowSelects : Obligations.AtMostOneRowSelects := by
  intro w
  have hselects {r : OpRow} (hr : r ∈ opcodeMap) : w &&& r.mask = r.pattern ↔ HasFormat w r.op :=
    beq_iff_eq.symm.trans (selects_iff_hasFormat hr w)
  refine ⟨fun r₁ h₁ r₂ h₂ hw₁ hw₂ => ?_, fun r hr hw => ?_, fun hno => ?_⟩
  · exact row_unique h₁ h₂ ((selects_iff_hasFormat h₁ w).mp hw₁) ((selects_iff_hasFormat h₂ w).mp hw₂)
  · exact decode_of_hasFormat hr ((hselects hr).mp hw)
  · have hformat := fun r hr => mt (hselects hr).mpr (hno r hr)
    exact ⟨illegalWord_of_no_format hformat, _, decode_of_no_format hformat⟩

/-- Settles O4: a word that has no row's format is rejected by the decoder, and a `TRD` of no register by
its own checks. -/
theorem illegalWordsAreRejected : Obligations.IllegalWordsAreRejected := by
  intro w
  exact ⟨illegalWord_iff_decode w, fun h s => commandStep_of_illegalWord h s⟩

end Sys2Proof.Machine
end

section
/-! The outcomes of a command in the vocabulary of the statements: a timer operand that names a timer or
none (30_encoding.md R67), a command that raises a status, a command that writes one timer (60_exceptions.md
R123). -/

namespace Sys2Proof.Machine

open Sys2Proof.Claims

theorem enabledTimer_eq_some_iff_names {c : Config} {t : BitVec 2} {id : TimerId} :
    enabledTimer c t = some id ↔ Names c t id := by
  rw [enabledTimer_eq_some, ← BitVec.toNat_inj, timerCode_toNat]
  rfl

theorem enabledTimer_eq_none_iff_namesNone {c : Config} {t : BitVec 2} :
    enabledTimer c t = none ↔ NamesNone c t := by
  simp only [Option.eq_none_iff_forall_ne_some, ne_eq, enabledTimer_eq_some_iff_names, NamesNone]

theorem raises_raise (st : Status) (s : State) : Raises (raise st s) s st := rfl

/-- A command that accepts without a write raises `Ok`. -/
theorem raises_accept (s : State) : Raises (accept 0 s) s .ok := rfl

/-- A command that accepts with one timer set writes that timer and nothing else (10_state.md R35). -/
theorem writes_accept_setTimer (s : State) (id : TimerId) (r : Timer) :
    Writes (accept 0 (setTimer s id r)) s id r :=
  ⟨_, rfl, get_set_same .., fun _ hu => get_set_other _ _ hu, ⟨rfl, rfl, rfl, rfl, rfl, rfl⟩, rfl⟩

end Sys2Proof.Machine
end

section
/-! The calibration commands `TINIT` and `TPRESC` (40_calibration.md R80, R81). -/

namespace Sys2Proof.Machine

open Sys2Proof.Claims

/-! ### Prescaler selections -/

theorem divisorOf_of_ne_off {p : Presc} (hp : p ≠ .off) :
    divisorOf p = some (divisorOfCode (prescNumber p)) := by
  cases p with
  | off => exact absurd rfl hp
  | _ => rfl

/-- The stored tick time of a selection, in the numbers of R18. -/
theorem ttnumOf_eq (p : Presc) :
    ttnumOf p = BitVec.ofNat 21 (if p = .off then 0 else divisorOfCode (prescNumber p) * 1000) := by
  by_cases hp : p = .off
  · subst hp; rfl
  · simp [ttnumOf, divisorOf_of_ne_off hp, hp]

/-- A selection is its code as an operand (30_encoding.md R69). -/
theorem toNat_of_prescOperand {code : BitVec 8} {p : Presc} (h : prescOperand code = some p) :
    prescNumber p = code.toNat := by
  rw [(prescOperand_eq_some.mp h).2]
  cases p <;> rfl

/-- The operands that select no divisor (30_encoding.md R69). -/
theorem prescOperand_eq_none {code : BitVec 8} :
    prescOperand code = none ↔ code.toNat = 0 ∨ 5 < code.toNat := by
  unfold prescOperand
  split
  case h_6 => simp_all only [imp_false, true_iff]; omega
  all_goals simp only [reduceCtorEq, false_iff]; omega

/-! ### `TINIT` -/

theorem recalibrate_of_enabled {c : Config} {t : TimerId} (r : Timer) (h : c.isEnabled t = true) :
    recalibrate c t r = { r with ttnum := ttnumOf r.presc } := by
  simp [recalibrate, h]

/-- Recalibration reads the prescaler selection and does not write it (40_calibration.md R79). -/
theorem recalibrate_recalibrate (c : Config) (t : TimerId) (r : Timer) :
    recalibrate c t (recalibrate c t r) = recalibrate c t r := by
  cases h : c.isEnabled t
  · simp only [recalibrate_of_disabled _ h]
  · simp only [recalibrate_of_enabled _ h]

/-- The writes of `TINIT` change nothing in the state they leave (40_calibration.md R80 corner case 1). -/
theorem initialise_initialise (s : State) : initialise (initialise s) = initialise s := by
  simp [initialise, recalibrate_recalibrate]

/-- `TINIT` does not read the outputs (10_state.md R41). -/
theorem initialise_emit (s : State) (o : Output) : initialise (emit s o) = emit (initialise s) o := rfl

theorem exec_tinit (s : State) : exec .tinit s = accept 0 (initialise s) := rfl

/-- Settles O8: the state that `TINIT` writes, bank by bank. -/
theorem tinitRule : Obligations.TinitRule := by
  intro s
  refine ⟨_, exec_tinit s, fun t => ?_, rfl, rfl, rfl, rfl, rfl, rfl, rfl⟩
  rw [emit_timers, initialise_get]
  split
  · next h => rw [recalibrate_of_enabled _ h, ttnumOf_eq]
  · next h => exact recalibrate_of_disabled _ (eq_false_of_ne_true h)

/-- Settles O9: the second `TINIT` writes what the first one left. -/
theorem tinitIsIdempotent : Obligations.TinitIsIdempotent := by
  intro s s' h
  obtain rfl := accept_eq_next.mp (exec_tinit s ▸ h)
  rw [exec_tinit, initialise_emit, initialise_initialise]
  exact raises_accept _

/-! ### `TPRESC` -/

section Tpresc

variable {s : State} {t : BitVec 2} {code : BitVec 8} {id : TimerId} {p : Presc}

theorem exec_tpresc_of_no_timer (ht : enabledTimer s.config t = none) :
    exec (.tpresc t code) s = raise .invalidTimer s := by
  simp only [exec, execTpresc, ht]

theorem exec_tpresc_of_no_divisor (ht : enabledTimer s.config t = some id)
    (hp : prescOperand code = none) : exec (.tpresc t code) s = raise .invalidPrescaler s := by
  simp only [exec, execTpresc, ht, hp]

/-- Reconfiguring a running timer has no meaning (40_calibration.md R81 corner case 3). -/
theorem exec_tpresc_of_running (ht : enabledTimer s.config t = some id)
    (hp : prescOperand code = some p) (hc : (s.timers.get id).cs ≠ .off) :
    exec (.tpresc t code) s = .refused .configWhileRunning := by
  simp only [exec, execTpresc, ht, hp, if_pos (clockRuns_iff.mpr hc)]

theorem exec_tpresc_of_stopped (ht : enabledTimer s.config t = some id)
    (hp : prescOperand code = some p) (hc : (s.timers.get id).cs = .off) :
    exec (.tpresc t code) s = accept 0 (setTimer s id (withPresc (s.timers.get id) p)) := by
  simp [exec, execTpresc, ht, hp, clockRuns_eq_false.mpr hc]

/-- The writes of `TPRESC` in the numbers of R18. -/
theorem withPresc_of_prescOperand (r : Timer) (hp : prescOperand code = some p) :
    withPresc r p =
      { r with presc := p, ttnum := BitVec.ofNat 21 (divisorOfCode code.toNat * 1000) } := by
  rw [withPresc, ttnumOf_eq, if_neg (prescOperand_eq_some.mp hp).1, toNat_of_prescOperand hp]

end Tpresc

/-- Settles O10: the checks of `TPRESC` in their order, each with its own equation. -/
theorem tprescRule : Obligations.TprescRule := by
  intro s t code
  refine ⟨fun hnone => ?_, fun id hnames => ?_⟩
  · rw [exec_tpresc_of_no_timer (enabledTimer_eq_none_iff_namesNone.mpr hnone)]
    exact raises_raise _ _
  have ht := enabledTimer_eq_some_iff_names.mpr hnames
  refine ⟨fun hcode => ?_, fun hone hfive => ?_⟩
  · rw [exec_tpresc_of_no_divisor ht (prescOperand_eq_none.mpr hcode)]
    exact raises_raise _ _
  have hsome : prescOperand code ≠ none := fun h => by
    have := prescOperand_eq_none.mp h
    omega
  obtain ⟨p, hp⟩ := Option.ne_none_iff_exists'.mp hsome
  refine ⟨exec_tpresc_of_running ht hp, fun hc => ⟨p, toNat_of_prescOperand hp, ?_⟩⟩
  rw [exec_tpresc_of_stopped ht hp hc, withPresc_of_prescOperand _ hp]
  exact writes_accept_setTimer s id _

end Sys2Proof.Machine
end

section
/-! The rounding of `raw_ticks` (41_decomposition.md R85) and what it means in milliseconds (R97). -/

namespace Sys2Proof.Machine

/-- The nearest whole number to `num / den`, an exact half going up, without the division
(00_scope.md section 6). -/
theorem roundHalfUp_bounds {num den : Nat} (hden : 0 < den) :
    roundHalfUp num den * (2 * den) ≤ 2 * num + den
      ∧ 2 * num + den < (roundHalfUp num den + 1) * (2 * den) :=
  ⟨Nat.div_mul_le_self _ _, Nat.lt_mul_of_div_lt (Nat.lt_succ_self _) (Nat.mul_pos two_pos hden)⟩

/-- Settles O19: Normal mode is the floor of the quotient, and CTC mode that of the doubled quotient
with a half added. -/
theorem rawTicksRounding : Obligations.RawTicksRounding := by
  intro ms fCpu ttnum hpos
  obtain ⟨hle, hlt⟩ := roundHalfUp_bounds (num := ms * fCpu) hpos
  refine ⟨⟨Nat.div_mul_le_self _ _, Nat.lt_mul_of_div_lt (Nat.lt_succ_self _) hpos⟩, ?_, ?_⟩ <;>
    dsimp only [rawTicks] <;> linarith

/-- A number of ticks is at most `y` milliseconds long, with the tick time of R77 multiplied out. -/
theorem mul_calibrate_le_iff {divisor fCpu : Nat} (hf : 0 < fCpu) (x y : Rat) :
    x * calibrate divisor fCpu ≤ y ↔ x * (divisor * 1000 : Nat) ≤ y * fCpu := by
  rw [calibrate, ← mul_div_assoc, div_le_iff₀ (Nat.cast_pos.mpr hf)]

/-- A number of ticks is longer than `y` milliseconds, with the tick time of R77 multiplied out. -/
theorem lt_mul_calibrate_iff {divisor fCpu : Nat} (hf : 0 < fCpu) (x y : Rat) :
    y < x * calibrate divisor fCpu ↔ y * fCpu < x * (divisor * 1000 : Nat) := by
  rw [calibrate, ← mul_div_assoc, lt_div_iff₀ (Nat.cast_pos.mpr hf)]

/-- Settles O50: the bounds of the rounding, divided by `F_CPU`. -/
theorem intervalLengthInMilliseconds : Obligations.IntervalLengthInMilliseconds := by
  intro divisor fCpu ms hd hf
  obtain ⟨⟨hfloor, hnext⟩, hbelow, habove⟩ :=
    rawTicksRounding ms fCpu (divisor * 1000) (Nat.mul_pos hd (by decide))
  have hfloor' := (mul_calibrate_le_iff (divisor := divisor) hf
    (rawTicks .normal ms fCpu (divisor * 1000)) ms).mpr (mod_cast hfloor)
  have hnext' := (lt_mul_calibrate_iff (divisor := divisor) hf
    (rawTicks .normal ms fCpu (divisor * 1000) + 1) ms).mpr (mod_cast hnext)
  have hbelow' := (lt_mul_calibrate_iff (divisor := divisor) hf
    (2 * rawTicks .ctc ms fCpu (divisor * 1000) + 1) (2 * ms)).mpr (mod_cast hbelow)
  have habove' := (mul_calibrate_le_iff (divisor := divisor) hf
    (2 * rawTicks .ctc ms fCpu (divisor * 1000) - 1) (2 * ms)).mpr (by
      have hcast : (2 * rawTicks .ctc ms fCpu (divisor * 1000) : Rat) * (divisor * 1000 : Nat)
          ≤ 2 * ms * fCpu + (divisor * 1000 : Nat) := mod_cast habove
      linarith)
  exact ⟨hfloor', by linarith, by linarith, by linarith⟩

end Sys2Proof.Machine
end

section
/-! The pair of the decomposer in each mode: the reload value of R87, and the divisor search with its
fallback (41_decomposition.md R89, R90). -/

namespace Sys2Proof.Machine

open Sys2Proof.Claims

theorem cap_eq_capacity (t : TimerId) : cap t = capacity t := by cases t <;> rfl

theorem dmin_eq_minDivisor (t : TimerId) : dmin t = minDivisor t := by cases t <;> rfl

theorem dmin_pos (t : TimerId) : 0 < dmin t := by cases t <;> decide

/-! ### Normal mode -/

/-- The overflow decomposition is the pair of R87. -/
theorem normalPair_overflowDecomposition (raw cap : Nat) :
    NormalPair raw cap (overflowDecomposition raw cap).preload
      (overflowDecomposition raw cap).tickCount := by
  refine ⟨rfl, ?_⟩
  by_cases hrem : raw % cap = 0
  · simp [overflowDecomposition, hrem]
  · simp [overflowDecomposition, hrem, Nat.pos_of_ne_zero hrem]

/-- `tick_count` counter periods, less the ticks the reload value skips, are `raw` ticks (R88 (c)): a
remainder is what one more period counts after the reload. -/
theorem normalPair_roundTrip {raw cap p n : Nat} (hcap : 0 < cap) (h : NormalPair raw cap p n) :
    raw + p = n * cap := by
  obtain ⟨rfl, rfl⟩ := h
  have hdiv : raw / cap * cap + raw % cap = raw := Nat.div_add_mod' raw cap
  split
  · next hrem => simpa [hrem] using hdiv.symm
  · next hrem =>
    have hlt : raw % cap < cap := Nat.mod_lt _ hcap
    rw [Nat.mod_eq_of_lt (a := cap - raw % cap) (by omega), Nat.add_one_mul]
    omega

/-- Settles O20: the bounds of the pair, and its round trip with the last period written apart. -/
theorem overflowRoundTrip : Obligations.OverflowRoundTrip := by
  rintro t raw hraw hlt d rfl
  rw [← cap_eq_capacity]
  obtain ⟨hpre, hone, hle⟩ := overflowDecomposition_bounds hraw (cap_pos t)
  have htrip := normalPair_roundTrip (cap_pos t) (normalPair_overflowDecomposition raw (cap t))
  refine ⟨Nat.le_pred_of_lt hpre, hone, hle.trans_lt hlt, htrip, ?_⟩
  rw [Nat.sub_one_mul]
  have hperiod := Nat.le_mul_of_pos_left (cap t) hone
  omega

/-! ### The divisor search -/

/-- The descending search does not pass a divisor within its bounds: it stops there or above
(41_decomposition.md R89). -/
theorem exists_divisorSearch_ge {raw dmin n e : Nat} (hpos : 0 < e) (hmin : dmin ≤ e) (hle : e ≤ n)
    (hdvd : raw % e = 0) : ∃ d, divisorSearch raw dmin n = some d ∧ e ≤ d := by
  induction n with
  | zero => omega
  | succ n ih =>
    unfold divisorSearch
    rw [if_neg (by omega)]
    split
    · exact ⟨n + 1, rfl, hle⟩
    · next hno =>
      have hne : e ≠ n + 1 := fun h => hno (h ▸ hdvd)
      exact ih (by omega)

/-- The search fails exactly when there is no divisor within its bounds (41_decomposition.md R90). -/
theorem divisorSearch_eq_none_iff {raw dmin n : Nat} (hdmin : 0 < dmin) :
    divisorSearch raw dmin n = none ↔ ∀ d, dmin ≤ d → d ≤ n → raw % d ≠ 0 := by
  rw [Option.eq_none_iff_forall_ne_some]
  constructor
  · intro hnone e hmin hle hdvd
    obtain ⟨d, hd, -⟩ := exists_divisorSearch_ge (hdmin.trans_le hmin) hmin hle hdvd
    exact hnone d hd
  · intro hno d hd
    obtain ⟨-, hmin, hle, hdvd⟩ := divisorSearch_eq_some hd
    exact hno d hmin hle hdvd

/-! ### CTC mode -/

theorem compareDecomposition_of_some {raw cap dmin d : Nat}
    (h : divisorSearch raw dmin (cap - 1) = some d) :
    compareDecomposition raw cap dmin = ⟨d, raw / d⟩ := by
  simp only [compareDecomposition, h]

theorem compareDecomposition_of_none {raw cap dmin : Nat}
    (h : divisorSearch raw dmin (cap - 1) = none) :
    compareDecomposition raw cap dmin = ⟨cap - 1, max 1 (roundHalfUp raw (cap - 1))⟩ := by
  simp only [compareDecomposition, h]

/-- The compare-match decomposition is the pair of R89, or of R90 where the search fails. -/
theorem ctcPair_compareDecomposition (raw cap : Nat) {dmin : Nat} (hdmin : 0 < dmin) :
    CtcPair raw cap dmin (compareDecomposition raw cap dmin).preload
      (compareDecomposition raw cap dmin).tickCount := by
  cases hsearch : divisorSearch raw dmin (cap - 1) with
  | some d =>
    rw [compareDecomposition_of_some hsearch]
    obtain ⟨-, hd⟩ := divisorSearch_eq_some hsearch
    refine .inl ⟨hd, fun e ⟨hmin, hle, hdvd⟩ => ?_, rfl⟩
    obtain ⟨d', hd', hge⟩ := exists_divisorSearch_ge (hdmin.trans_le hmin) hmin hle hdvd
    exact Option.some.inj (hd'.symm.trans hsearch) ▸ hge
  | none =>
    rw [compareDecomposition_of_none hsearch]
    have hno := (divisorSearch_eq_none_iff hdmin).mp hsearch
    exact .inr ⟨fun e ⟨hmin, hle, hdvd⟩ => hno e hmin hle hdvd, rfl, rfl⟩

section CtcPair

variable {raw cap dmin p n : Nat}

/-- The compare value is at least `DMIN` (41_decomposition.md R91 (a)). -/
theorem dmin_le_of_ctcPair (hdmin : dmin ≤ cap - 1) (h : CtcPair raw cap dmin p n) : dmin ≤ p := by
  obtain ⟨⟨hmin, -⟩, -⟩ | ⟨-, rfl, -⟩ := h
  · exact hmin
  · exact hdmin

/-- With an exact divisor the pair gives back `raw_ticks` (41_decomposition.md R91 (c)). -/
theorem mul_eq_of_ctcPair {e : Nat} (he : Admissible raw cap dmin e) (h : CtcPair raw cap dmin p n) :
    p * n = raw := by
  obtain ⟨⟨-, -, hdvd⟩, -, rfl⟩ | ⟨hno, -⟩ := h
  · exact Nat.mul_div_cancel' (Nat.dvd_of_mod_eq_zero hdvd)
  · exact absurd he (hno e)

/-- A `raw_ticks` that fits the compare register is its own largest divisor (41_decomposition.md
R91 (d)). -/
theorem eq_of_ctcPair_of_fits (hraw : 1 ≤ raw) (hmin : dmin ≤ raw) (hle : raw ≤ cap - 1)
    (h : CtcPair raw cap dmin p n) : p = raw ∧ n = 1 := by
  have hself : Admissible raw cap dmin raw := ⟨hmin, hle, Nat.mod_self raw⟩
  obtain ⟨⟨-, -, hdvd⟩, hmax, rfl⟩ | ⟨hno, -⟩ := h
  · obtain rfl : p = raw :=
      (Nat.le_of_dvd hraw (Nat.dvd_of_mod_eq_zero hdvd)).antisymm (hmax raw hself)
    exact ⟨rfl, Nat.div_self hraw⟩
  · exact absurd hself (hno raw)

end CtcPair

/-- Settles O21: the pair is that of R89 and R90, and the bounds follow from either. -/
theorem compareDecompositionIsLargestDivisor : Obligations.CompareDecompositionIsLargestDivisor := by
  rintro t raw hraw d rfl
  rw [← cap_eq_capacity, ← dmin_eq_minDivisor]
  have hdmin : dmin t ≤ cap t - 1 := by cases t <;> decide
  have hpair := ctcPair_compareDecomposition raw (cap t) (dmin_pos t)
  obtain ⟨-, hlt, hone, hle⟩ :=
    compareDecomposition_bounds (dmin := dmin t) hraw (le_trans (by decide) (cap_ge t))
  exact ⟨hpair, dmin_le_of_ctcPair hdmin hpair, Nat.le_pred_of_lt hlt, hone, hle,
    fun ⟨_, he⟩ => mul_eq_of_ctcPair he hpair,
    fun hmin hfits => eq_of_ctcPair_of_fits hraw hmin hfits hpair⟩

/-- The nearest number of 255-tick periods is at least 1 from 128 ticks on, and misses `raw` by less than
half a period (41_decomposition.md R90). -/
theorem fallback_error {raw n : Nat} (hraw : 128 ≤ raw) (hn : n = max 1 (roundHalfUp raw 255)) :
    255 * n ≤ raw + 127 ∧ raw ≤ 255 * n + 127 := by
  obtain ⟨hle, hlt⟩ := roundHalfUp_bounds (num := raw) (den := 255) (by decide)
  omega

/-- Settles O22: 1 divides every `raw_ticks`, and only timer 2 bars it. -/
theorem fallbackOnlyOnTimerTwo : Obligations.FallbackOnlyOnTimerTwo := by
  intro raw _
  refine ⟨fun t ht hnone => ?_, divisorSearch_eq_none_iff (dmin_pos .t2), ?_⟩
  · have hdmin : dmin t = 1 := by
      cases t with
      | t0 | t1 => rfl
      | t2 => exact absurd rfl ht
    have hcap := cap_ge t
    exact (divisorSearch_eq_none_iff (dmin_pos t)).mp hnone 1 hdmin.le (by omega) (Nat.mod_one raw)
  · rintro hnone hraw d rfl
    rw [compareDecomposition_of_none hnone]
    exact fallback_error hraw rfl

end Sys2Proof.Machine
end

section
/-! `TSETTIME` (41_decomposition.md R93 to R95). -/

namespace Sys2Proof.Machine

open Sys2Proof.Claims

/-! ### The request -/

/-- The operands that are no mode (30_encoding.md R68). -/
theorem modeOperand_eq_none {m : BitVec 2} : modeOperand m = none ↔ 2 ≤ m.toNat := by
  revert m; decide

/-- `LADDER` in the numbers of R12. -/
theorem ladderHas_iff {c : Config} {ms : Nat} : c.ladderHas ms = true ↔ InLadder c ms := by
  simp [Config.ladderHas, InLadder]

/-- `raw_ticks` in the numbers of R85. -/
theorem rawTicks_eq_rawOf {m : BitVec 2} {md : Mode} (hm : modeOperand m = some md)
    (ms fCpu ttnum : Nat) : rawTicks md ms fCpu ttnum = rawOf m.toNat ms fCpu ttnum := by
  obtain rfl := modeOperand_eq_some.mp hm
  cases md with
  | normal => rfl
  | ctc => simp [rawTicks, roundHalfUp, rawOf, modeCode, Nat.mul_assoc]

section Decompose

variable {c : Config} {t : TimerId} {md : Mode} {ttnum ms : Nat}

/-- The decomposer rejects the requests of R86 and R93. -/
theorem decompose_of_rejected (h : IntervalRejected c ms (rawTicks md ms c.fCpu.toNat ttnum)) :
    decompose c t md ttnum ms = none := by
  unfold decompose
  obtain hzero | hladder | hraw := h
  · exact if_pos (.inl hzero)
  · exact if_pos (.inr (Bool.eq_false_iff.mpr (mt ladderHas_iff.mp hladder)))
  · simp only [if_pos hraw, ite_self]

/-- The decomposer answers every other request with the pair of the mode. -/
theorem decompose_of_not_rejected (h : ¬ IntervalRejected c ms (rawTicks md ms c.fCpu.toNat ttnum)) :
    decompose c t md ttnum ms = some (decomposition md t (rawTicks md ms c.fCpu.toNat ttnum)) := by
  refine (if_neg fun hbad => h ?_).trans (if_neg fun hraw => h (.inr (.inr hraw)))
  exact hbad.imp_right fun hladder => .inl (mt ladderHas_iff.mpr (Bool.eq_false_iff.mp hladder))

end Decompose

/-! ### The command -/

section Tsettime

variable {s : State} {t mode : BitVec 2} {ms : Half} {id : TimerId} {md : Mode}

theorem exec_tsettime_of_no_timer (ht : enabledTimer s.config t = none) :
    exec (.tsettime t mode ms) s = raise .invalidTimer s := by
  simp only [exec, execTsettime, ht]

theorem exec_tsettime_of_no_mode (ht : enabledTimer s.config t = some id)
    (hm : modeOperand mode = none) : exec (.tsettime t mode ms) s = raise .invalidMode s := by
  simp only [exec, execTsettime, ht, hm]

theorem exec_tsettime_of_no_divisor (ht : enabledTimer s.config t = some id)
    (hm : modeOperand mode = some md) (hp : (s.timers.get id).presc = .off) :
    exec (.tsettime t mode ms) s = raise .invalidPrescaler s := by
  simp only [exec, execTsettime, ht, hm, if_pos hp]

theorem exec_tsettime_of_rejected (ht : enabledTimer s.config t = some id)
    (hm : modeOperand mode = some md) (hp : (s.timers.get id).presc ≠ .off)
    (hd : decompose s.config id md (s.timers.get id).ttnum.toNat ms.toNat = none) :
    exec (.tsettime t mode ms) s = raise .invalidInterval s := by
  simp only [exec, execTsettime, ht, hm, if_neg hp, hd]

/-- Reconfiguring a running timer has no meaning (41_decomposition.md R95). -/
theorem exec_tsettime_of_running {d : Decomposition} (ht : enabledTimer s.config t = some id)
    (hm : modeOperand mode = some md) (hp : (s.timers.get id).presc ≠ .off)
    (hd : decompose s.config id md (s.timers.get id).ttnum.toNat ms.toNat = some d)
    (hc : (s.timers.get id).cs ≠ .off) :
    exec (.tsettime t mode ms) s = .refused .configWhileRunning := by
  simp only [exec, execTsettime, ht, hm, if_neg hp, hd, if_pos (clockRuns_iff.mpr hc)]

theorem exec_tsettime_of_stopped {d : Decomposition} (ht : enabledTimer s.config t = some id)
    (hm : modeOperand mode = some md) (hp : (s.timers.get id).presc ≠ .off)
    (hd : decompose s.config id md (s.timers.get id).ttnum.toNat ms.toNat = some d)
    (hc : (s.timers.get id).cs = .off) :
    exec (.tsettime t mode ms) s = accept 0 (setTimer s id (configured (s.timers.get id) md d)) := by
  simp [exec, execTsettime, ht, hm, hp, hd, clockRuns_eq_false.mpr hc]

end Tsettime

/-- Settles O11: the checks of `TSETTIME` in their order, each with its own equation, then the writes of
the mode with the pair of the mode. -/
theorem tsettimeRule : Obligations.TsettimeRule := by
  intro s t mode ms
  refine ⟨fun hnone => ?_, fun id hnames => ?_⟩
  · rw [exec_tsettime_of_no_timer (enabledTimer_eq_none_iff_namesNone.mpr hnone)]
    exact raises_raise _ _
  have ht := enabledTimer_eq_some_iff_names.mpr hnames
  refine ⟨fun hmode => ?_, fun hmode => ?_⟩
  · rw [exec_tsettime_of_no_mode ht (modeOperand_eq_none.mpr hmode)]
    exact raises_raise _ _
  have hsome : modeOperand mode ≠ none := fun h => by
    have := modeOperand_eq_none.mp h
    omega
  obtain ⟨md, hm⟩ := Option.ne_none_iff_exists'.mp hsome
  refine ⟨fun hp => ?_, fun hp raw hraw => ?_⟩
  · rw [exec_tsettime_of_no_divisor ht hm hp]
    exact raises_raise _ _
  rw [← rawTicks_eq_rawOf hm] at hraw
  subst hraw
  refine ⟨fun hreject => ?_, fun haccept => ?_⟩
  · rw [exec_tsettime_of_rejected ht hm hp (decompose_of_rejected hreject)]
    exact raises_raise _ _
  have hd := decompose_of_not_rejected (t := id) haccept
  refine ⟨exec_tsettime_of_running ht hm hp hd, fun hc => ?_⟩
  rw [exec_tsettime_of_stopped ht hm hp hd hc, ← cap_eq_capacity, ← dmin_eq_minDivisor]
  obtain rfl := modeOperand_eq_some.mp hm
  cases md with
  | normal =>
    exact ⟨fun _ => ⟨_, _, normalPair_overflowDecomposition _ _, writes_accept_setTimer s id _⟩,
      fun hone => absurd hone (by decide)⟩
  | ctc =>
    exact ⟨fun hzero => absurd hzero (by decide),
      fun _ => ⟨_, _, ctcPair_compareDecomposition _ _ (dmin_pos id), writes_accept_setTimer s id _⟩⟩

end Sys2Proof.Machine
end

section
/-! `TSETCB` (42_callback_registry.md R101). -/

namespace Sys2Proof.Machine

open Sys2Proof.Claims

section Tsetcb

variable {s : State} {t : BitVec 2} {fn ctx : Half} {id : TimerId}

theorem exec_tsetcb_of_no_timer (ht : enabledTimer s.config t = none) :
    exec (.tsetcb t fn ctx) s = raise .invalidTimer s := by
  simp only [exec, execTsetcb, ht]

theorem exec_tsetcb_of_null (ht : enabledTimer s.config t = some id) (hf : fn = 0) :
    exec (.tsetcb t fn ctx) s = raise .nullCallback s := by
  simp only [exec, execTsetcb, ht, if_pos hf]

/-- The write asks nothing of the old entry, of the lifecycle or of the context (42_callback_registry.md
R101). -/
theorem exec_tsetcb_of_function (ht : enabledTimer s.config t = some id) (hf : fn ≠ 0) :
    exec (.tsetcb t fn ctx) s =
      accept 0 (setTimer s id (withCallback (s.timers.get id) fn ctx)) := by
  simp only [exec, execTsetcb, ht, if_neg hf]

end Tsetcb

/-- Settles O12: the checks of `TSETCB` in their order, each with its own equation. -/
theorem tsetcbRule : Obligations.TsetcbRule := by
  intro s t fn ctx
  refine ⟨fun hnone => ?_, fun id hnames => ?_⟩
  · rw [exec_tsetcb_of_no_timer (enabledTimer_eq_none_iff_namesNone.mpr hnone)]
    exact raises_raise _ _
  have ht := enabledTimer_eq_some_iff_names.mpr hnames
  refine ⟨fun hf => ?_, fun hf => ?_⟩
  · rw [exec_tsetcb_of_null ht hf]
    exact raises_raise _ _
  · rw [exec_tsetcb_of_function ht hf]
    exact writes_accept_setTimer s id _

end Sys2Proof.Machine
end

section
/-! `TSTART`, `TSTOP` and the lifecycle (43_run_control.md R104 to R106). -/

namespace Sys2Proof.Machine

open Sys2Proof.Claims

/-! ### `TSTART` and `TSTOP` -/

section RunControl

variable {s : State} {t : BitVec 2} {id : TimerId}

theorem exec_tstart_of_no_timer (ht : enabledTimer s.config t = none) :
    exec (.tstart t) s = raise .invalidTimer s := by
  simp only [exec, execTstart, ht]

theorem exec_tstart_of_unconfigured (ht : enabledTimer s.config t = some id)
    (hs : (s.timers.get id).st = .unconfigured) :
    exec (.tstart t) s = raise .invalidPrescaler s := by
  simp only [exec, execTstart, ht, if_pos hs]

/-- A running timer is started again: only an unconfigured one is refused (43_run_control.md R105). -/
theorem exec_tstart_of_configured (ht : enabledTimer s.config t = some id)
    (hs : (s.timers.get id).st ≠ .unconfigured) :
    exec (.tstart t) s = accept 0 (setTimer s id (started (s.timers.get id))) := by
  simp only [exec, execTstart, ht, if_neg hs]

theorem exec_tstop_of_no_timer (ht : enabledTimer s.config t = none) :
    exec (.tstop t) s = raise .invalidTimer s := by
  simp only [exec, execTstop, ht]

/-- The stop asks nothing of the lifecycle (43_run_control.md R106). -/
theorem exec_tstop_of_timer (ht : enabledTimer s.config t = some id) :
    exec (.tstop t) s = accept 0 (setTimer s id (stopped (s.timers.get id))) := by
  simp only [exec, execTstop, ht]

end RunControl

/-- Settles O13: the checks of `TSTART` in their order, each with its own equation. -/
theorem tstartRule : Obligations.TstartRule := by
  intro s t
  refine ⟨fun hnone => ?_, fun id hnames => ?_⟩
  · rw [exec_tstart_of_no_timer (enabledTimer_eq_none_iff_namesNone.mpr hnone)]
    exact raises_raise _ _
  have ht := enabledTimer_eq_some_iff_names.mpr hnames
  refine ⟨fun hs => ?_, fun hs => ?_⟩
  · rw [exec_tstart_of_unconfigured ht hs]
    exact raises_raise _ _
  · rw [exec_tstart_of_configured ht hs]
    exact writes_accept_setTimer s id _

/-- Settles O14: the one check of `TSTOP`, then its writes. -/
theorem tstopRule : Obligations.TstopRule := by
  intro s t
  refine ⟨fun hnone => ?_, fun id hnames => ?_⟩
  · rw [exec_tstop_of_no_timer (enabledTimer_eq_none_iff_namesNone.mpr hnone)]
    exact raises_raise _ _
  · rw [exec_tstop_of_timer (enabledTimer_eq_some_iff_names.mpr hnames)]
    exact writes_accept_setTimer s id _

/-! ### The lifecycle -/

/-- A timer that `TSTART` accepts is in one of the two other states. -/
theorem running_or_configured {l : Lifecycle} (h : l ≠ .unconfigured) :
    l = .running ∨ l = .configured := by
  cases l with
  | unconfigured => exact absurd rfl h
  | configured => exact .inr rfl
  | running => exact .inl rfl

/-- Settles O38: of the writers of a timer only `TSETTIME`, `TSTART` and `TSTOP` write its lifecycle, the
last two from the states of the transition table. -/
theorem lifecycleTransitions : Obligations.LifecycleTransitions := by
  intro m s s' t h
  have hstep := runMove_timerStep h t
  generalize s'.timers.get t = r at hstep
  cases hstep with
  | tsettime hw => exact .inr (.inl ⟨⟨_, _, rfl, hw, _, _, _, rfl⟩, rfl⟩)
  | tstart hw hx hs =>
    obtain hrun | hconf := running_or_configured hs
    · exact .inl hrun
    · exact .inr (.inr (.inl ⟨⟨_, _, rfl, hw, _, rfl⟩, hconf, rfl⟩))
  | tstop hw hx =>
    by_cases hrun : (s.timers.get t).st = .running
    · exact .inr (.inr (.inr ⟨⟨_, _, rfl, hw, _, rfl⟩, hrun, if_pos hrun⟩))
    · exact .inl (if_neg hrun).symm
  | _ => exact .inl rfl

end Sys2Proof.Machine
end

section
/-! The pseudo-instruction `TRECONF` (30_encoding.md R76, 43_run_control.md R107). -/

namespace Sys2Proof.Machine

open Sys2Proof.Claims

/-! ### Issuing commands one after the other -/

@[simp] theorem lastStatus_emit_response (s : State) (st : Status) (d : Word) :
    lastStatus (emit s (.response st d)) = some st := by
  simp [lastStatus]

/-- A command that accepts is followed by the next one (30_encoding.md R76). -/
theorem issueAll_cons_of_accept {i : Instr} {rest : List Instr} {s s₁ : State} {d : Word}
    (h : exec i s = accept d s₁) :
    issueAll (i :: rest) s = issueAll rest (emit s₁ (.response .ok d)) := by
  simp only [issueAll, h, accept, lastStatus_emit_response, if_true]

/-- Of two writes on one timer, with an output between them, the second stays. -/
theorem setTimer_emit_setTimer (s : State) (t : TimerId) (r r' : Timer) (o : Output) :
    setTimer (emit (setTimer s t r) o) t r' = emit (setTimer s t r') o := by
  simp [setTimer, emit]

/-! ### The sequence -/

/-- The timer that `TRECONF` leaves: stopped, configured anew and started. -/
def reconfigured (r : Timer) (mode : Mode) (d : Decomposition) : Timer :=
  started (configured (stopped r) mode d)

/-- `TRECONF` with an accepted request runs all its three commands: `TSTOP` leaves the clock stopped, so
that `TSETTIME` is not refused, and `TSETTIME` leaves the timer configured, so that `TSTART` is
accepted (43_run_control.md R107). -/
theorem issueAll_treconf {s : State} {t mode : BitVec 2} {ms : Half} {id : TimerId} {md : Mode}
    {d : Decomposition} (ht : enabledTimer s.config t = some id) (hm : modeOperand mode = some md)
    (hp : (s.timers.get id).presc ≠ .off)
    (hd : decompose s.config id md (s.timers.get id).ttnum.toNat ms.toNat = some d) :
    issueAll (treconf t mode ms) s =
      .next { setTimer s id (reconfigured (s.timers.get id) md d) with
        obs := s.obs ++ List.replicate 3 (.response .ok 0) } := by
  have hstop := exec_tstop_of_timer ht
  have hset := exec_tsettime_of_stopped (d := d)
    (s := emit (setTimer s id (stopped (s.timers.get id))) (.response .ok 0))
    ht hm (by simpa using hp) (by simpa using hd) (by simp)
  simp only [emit_timers, setTimer_timers, get_set_same, setTimer_emit_setTimer] at hset
  have hstart := exec_tstart_of_configured
    (s := emit (emit (setTimer s id (configured (stopped (s.timers.get id)) md d)) (.response .ok 0))
      (.response .ok 0)) ht (by simp)
  rw [treconf, issueAll_cons_of_accept hstop, issueAll_cons_of_accept hset,
    issueAll_cons_of_accept hstart, issueAll]
  simp [setTimer, emit, reconfigured]

/-- Settles O44: the run of the sequence, with the pair of the mode. -/
theorem reconfigurationSequence : Obligations.ReconfigurationSequence := by
  intro s t mode id ms raw hnames hmode hp hraw haccept
  have ht := enabledTimer_eq_some_iff_names.mpr hnames
  have hsome : modeOperand mode ≠ none := fun h => absurd (modeOperand_eq_none.mp h) (by omega)
  obtain ⟨md, hm⟩ := Option.ne_none_iff_exists'.mp hsome
  rw [← rawTicks_eq_rawOf hm] at hraw
  subst hraw
  have hd := decompose_of_not_rejected (t := id) haccept
  refine ⟨_, issueAll_treconf ht hm hp hd, rfl, ⟨rfl, rfl, rfl, rfl, rfl, rfl⟩,
    fun u hu => get_set_other _ _ hu, ?_⟩
  rw [← cap_eq_capacity, ← dmin_eq_minDivisor]
  obtain rfl := modeOperand_eq_some.mp hm
  cases md with
  | normal =>
    exact ⟨fun _ => ⟨_, _, normalPair_overflowDecomposition _ _, get_set_same ..⟩,
      fun hone => absurd hone (by decide)⟩
  | ctc =>
    exact ⟨fun hzero => absurd hzero (by decide),
      fun _ => ⟨_, _, ctcPair_compareDecomposition _ _ (dmin_pos id), get_set_same ..⟩⟩

end Sys2Proof.Machine
end

section
/-! `TPWMF` and `TPWMP` (44_pwm.md R112 to R116). -/

namespace Sys2Proof.Machine

open Sys2Proof.Claims

/-! ### The compare value -/

/-- The compare value in the numbers of R112. -/
theorem pwmCompare_eq (percent top : Nat) : pwmCompare percent top = (2 * percent * top + 100) / 200 := by
  rw [pwmCompare, roundHalfUp, Nat.mul_assoc]

/-- A full duty is the top value, with no rounding. -/
theorem pwmCompare_hundred (top : Nat) : pwmCompare 100 top = top := by
  rw [pwmCompare_eq]
  omega

/-- From a top of 50 on, one percent is half a count or more, which rounds up. -/
theorem pwmCompare_pos {percent top : Nat} (hp : 1 ≤ percent) (htop : 50 ≤ top) :
    1 ≤ pwmCompare percent top := by
  have hprod : 1 * 50 ≤ percent * top := Nat.mul_le_mul hp htop
  rw [pwmCompare_eq, Nat.mul_assoc]
  omega

/-- Settles O23: the value of R112, its two bounds, and its value at a full duty. -/
theorem dutyCompareRange : Obligations.DutyCompareRange := fun percent top hone hhundred =>
  ⟨pwmCompare_eq percent top, pwmCompare_pos hone, pwmCompare_le hhundred, pwmCompare_hundred top⟩

/-! ### The operands -/

/-- The top value of a PWM-capable timer: every timer but timer 2 (00_scope.md R13). -/
theorem pwmTop_of_ne_t2 (c : Config) {id : TimerId} (v : PwmVariant) (hid : id ≠ .t2) :
    pwmTop c id v = some (dutyTop c id v) := by
  cases id with
  | t0 | t1 => cases v <;> rfl
  | t2 => exact absurd rfl hid

/-- The timer operand of a PWM command names no timer when it names none that is PWM-capable
(44_pwm.md R116). -/
theorem pwmTimer_of_names_only_t2 {c : Config} {t : BitVec 2} {v : PwmVariant}
    (h : ∀ id, Names c t id → id = .t2) : pwmTimer c t v = none := by
  refine Option.eq_none_iff_forall_ne_some.mpr fun ⟨id, top⟩ hsome => ?_
  obtain ⟨ht, htop⟩ := pwmTimer_eq_some.mp hsome
  obtain rfl := h id (enabledTimer_eq_some_iff_names.mp ht)
  cases htop

theorem pwmTimer_of_names {c : Config} {t : BitVec 2} {id : TimerId} (v : PwmVariant)
    (hnames : Names c t id) (hid : id ≠ .t2) : pwmTimer c t v = some (id, dutyTop c id v) :=
  pwmTimer_eq_some.mpr ⟨enabledTimer_eq_some_iff_names.mpr hnames, pwmTop_of_ne_t2 c v hid⟩

theorem polarityOperand_eq_none {pol : BitVec 2} : polarityOperand pol = none ↔ 2 ≤ pol.toNat := by
  revert pol
  decide

theorem polarityOperand_of_le_one {pol : BitVec 2} :
    pol.toNat ≤ 1 → polarityOperand pol = some (if pol.toNat = 0 then .nonInverting else .inverting) := by
  revert pol
  decide

/-! ### The duty operation of either variant -/

section SetDuty

variable {s : State} {v : PwmVariant} {t pol : BitVec 2} {percent : BitVec 8} {id : TimerId} {top : Nat}

theorem setDuty_of_no_timer (ht : pwmTimer s.config t v = none) :
    setDuty v t pol percent s = raise .invalidTimer s := by
  simp only [setDuty, ht]

theorem setDuty_of_no_duty (ht : pwmTimer s.config t v = some (id, top))
    (hp : ¬ percentAccepted percent = true) :
    setDuty v t pol percent s = raise .invalidDutyCycle s := by
  simp only [setDuty, ht, if_neg hp]

theorem setDuty_of_no_polarity (ht : pwmTimer s.config t v = some (id, top))
    (hp : percentAccepted percent = true) (hc : polarityOperand pol = none) :
    setDuty v t pol percent s = raise .invalidPwmPolarity s := by
  simp only [setDuty, ht, if_pos hp, hc]

theorem setDuty_of_accepted {com : Com} (ht : pwmTimer s.config t v = some (id, top))
    (hp : percentAccepted percent = true) (hc : polarityOperand pol = some com) :
    setDuty v t pol percent s =
      accept 0 (setTimer s id (withPwm (s.timers.get id) v com (pwmCompare percent.toNat top))) := by
  simp only [setDuty, ht, if_pos hp, hc]

end SetDuty

/-- The rule of both commands: the checks of R116 in their order, each with its own equation, then the
three writes. -/
theorem dutyRule_setDuty (v : PwmVariant) : DutyRule (setDuty v) v (wgmOfVariant v) := by
  intro s t pol percent
  refine ⟨fun hnone => ?_, fun id hnames hid => ?_⟩
  · rw [setDuty_of_no_timer (pwmTimer_of_names_only_t2 hnone)]
    exact raises_raise _ _
  have ht := pwmTimer_of_names v hnames hid
  refine ⟨fun hduty => ?_, fun hone hhundred => ?_⟩
  · have hp : ¬ percentAccepted percent = true := by
      rw [percentAccepted_iff]
      omega
    rw [setDuty_of_no_duty ht hp]
    exact raises_raise _ _
  have hp := percentAccepted_iff.mpr ⟨hone, hhundred⟩
  refine ⟨fun hpol => ?_, fun hpol => ?_⟩
  · rw [setDuty_of_no_polarity ht hp (polarityOperand_eq_none.mpr hpol)]
    exact raises_raise _ _
  · rw [setDuty_of_accepted ht hp (polarityOperand_of_le_one hpol), pwmCompare_eq]
    exact writes_accept_setTimer s id _

/-- Settles O15: `TPWMF` is the duty operation of the Fast variant. -/
theorem tpwmfRule : Obligations.TpwmfRule := dutyRule_setDuty .fast

/-- Settles O16: `TPWMP` is the duty operation of the Phase-Correct variant. -/
theorem tpwmpRule : Obligations.TpwmpRule := dutyRule_setDuty .phaseCorrect

end Sys2Proof.Machine
end

section
/-! `TIRET` and `TRD` (45_system.md R117, R118), and the register layout a `TRD` answers with (20_memory.md
R46, R47). -/

namespace Sys2Proof.Machine

open Sys2Proof.Claims

/-! ### `TIRET` -/

theorem exec_tiret_of_none {s : State} (h : s.inService = none) :
    exec .tiret s = raise .illegalCommand s := by
  simp only [exec, execTiret, h]

theorem exec_tiret_of_some {s : State} {x : TimerId × Src} (h : s.inService = some x) :
    exec .tiret s = accept 0 (returnFromInterrupt s) := by
  simp only [exec, execTiret, h]

/-- Settles O17: the one check of `TIRET`, then its write. -/
theorem tiretRule : Obligations.TiretRule := by
  intro s
  refine ⟨fun hnone => ?_, fun hsome => ?_⟩
  · rw [exec_tiret_of_none hnone]
    exact raises_raise _ _
  · obtain ⟨x, hx⟩ := Option.ne_none_iff_exists'.mp hsome
    exact exec_tiret_of_some hx

/-! ### The register map -/

/-- The index of a per-timer register (20_memory.md R46). -/
def timerRegNumber : TimerReg → Nat
  | .cfg => 0x00
  | .preload => 0x01
  | .tickcnt => 0x02
  | .curticks => 0x03
  | .ttnum => 0x04
  | .callback => 0x05
  | .cnt => 0x06
  | .ocr => 0x07
  | .hwctl => 0x08

/-- The index of a global register (20_memory.md R46). -/
def globalRegNumber : GlobalReg → Nat
  | .gstat => 0x10
  | .fcpu => 0x11

theorem timerRegOfIndex_eq_some {reg : BitVec 8} {n : TimerReg} :
    timerRegOfIndex reg = some n ↔ reg.toNat = timerRegNumber n := by
  cases n <;> revert reg <;> decide

theorem globalRegOfIndex_eq_some {reg : BitVec 8} {g : GlobalReg} :
    globalRegOfIndex reg = some g ↔ reg.toNat = globalRegNumber g := by
  cases g <;> revert reg <;> decide

theorem exists_timerRegOfIndex {reg : BitVec 8} (h : reg.toNat ≤ 8) :
    ∃ n, timerRegOfIndex reg = some n := by
  rw [← Option.isSome_iff_exists]
  revert reg
  decide

theorem exists_globalRegOfIndex {reg : BitVec 8} (h : reg.toNat = 0x10 ∨ reg.toNat = 0x11) :
    ∃ g, globalRegOfIndex reg = some g :=
  h.elim (fun h => ⟨.gstat, globalRegOfIndex_eq_some.mpr h⟩)
    fun h => ⟨.fcpu, globalRegOfIndex_eq_some.mpr h⟩

/-- An index names a per-timer or a global register, not both. -/
theorem globalRegOfIndex_of_timerReg {reg : BitVec 8} {n : TimerReg} (h : timerRegOfIndex reg = some n) :
    globalRegOfIndex reg = none := by
  refine Option.eq_none_iff_forall_ne_some.mpr fun g hg => ?_
  have := toNat_le_of_timerRegOfIndex h
  have := toNat_of_globalRegOfIndex hg
  omega

/-! ### The register layout

A register is its fields from the top down, so as a number each field counts from its position. -/

theorem toNat_append_eq {v w : Nat} (x : BitVec v) (y : BitVec w) :
    (x ++ y).toNat = x.toNat * 2 ^ w + y.toNat := by
  rw [BitVec.toNat_append, ← Nat.shiftLeft_add_eq_or_of_lt y.isLt, Nat.shiftLeft_eq]

@[simp] theorem bit_true : bit true = 1 := rfl

@[simp] theorem bit_false : bit false = 0 := rfl

theorem toNat_flagBit (b : Bool) : (flagBit b).toNat = bit b := by cases b <;> rfl

theorem toNat_prescCode (p : Presc) : (prescCode p).toNat = prescNumber p := by cases p <;> rfl

theorem toNat_modeCode (m : Mode) : (modeCode m).toNat = bit (decide (m = .ctc)) := by cases m <;> rfl

/-- The fields of a per-timer register stand at the positions of R47, with zeros above. -/
theorem toNat_readTimerReg (r : Timer) (n : TimerReg) :
    (readTimerReg r n).toNat = timerRegisterValue r (timerRegNumber n) := by
  cases n with
  | cfg =>
    have hbne : (r.cbFn != 0) = decide (r.cbFn ≠ 0) := by
      rw [Bool.eq_iff_iff, bne_iff_ne, decide_eq_true_iff]
    simp only [readTimerReg, timerRegNumber, timerRegisterValue, toNat_append_eq, toNat_flagBit,
      toNat_modeCode, toNat_prescCode, hbne]
    cases r.st <;> simp [stCode] <;> omega
  | preload | ttnum | cnt | ocr => exact BitVec.toNat_setWidth_of_le (by decide)
  | tickcnt | curticks => rfl
  | callback => exact toNat_append_eq r.cbFn r.cbCtx
  | hwctl =>
    simp only [readTimerReg, timerRegNumber, timerRegisterValue, toNat_append_eq, toNat_flagBit,
      toNat_prescCode]
    cases r.wgm <;> cases r.com <;> simp [wgmCode, comCode] <;> omega

/-- The fields of a global register stand at the positions of R47, with zeros above. -/
theorem toNat_readGlobalReg (s : State) (g : GlobalReg) :
    (readGlobalReg s g).toNat = globalRegisterValue s (globalRegNumber g) := by
  cases g with
  | gstat =>
    simp only [readGlobalReg, globalRegNumber, globalRegisterValue, toNat_append_eq, toNat_flagBit]
    rcases s.inService with _ | ⟨t, src⟩
    · simp [inServiceBits]
      omega
    · cases t <;> cases src <;> simp [inServiceBits, srcCode, timerCode, timerNumber] <;> omega
  | fcpu => rfl

/-! ### `TRD` -/

section Trd

variable {s : State} {t : BitVec 2} {reg : BitVec 8}

theorem exec_trd_of_no_register (h : namesRegister t reg = false) :
    exec (.trd t reg) s = raise .illegalCommand s :=
  execTrd_of_no_register h s

theorem exec_trd_of_global {g : GlobalReg} (hg : globalRegOfIndex reg = some g) (ht : t = 0) :
    exec (.trd t reg) s = accept (readGlobalReg s g) s := by
  simp only [exec, execTrd, hg, if_pos ht]

theorem exec_trd_of_no_timer {n : TimerReg} (hn : timerRegOfIndex reg = some n)
    (ht : enabledTimer s.config t = none) : exec (.trd t reg) s = raise .invalidTimer s := by
  simp only [exec, execTrd, globalRegOfIndex_of_timerReg hn, hn, ht]

theorem exec_trd_of_timer {n : TimerReg} {id : TimerId} (hn : timerRegOfIndex reg = some n)
    (ht : enabledTimer s.config t = some id) :
    exec (.trd t reg) s = accept (readTimerReg (s.timers.get id) n) s := by
  simp only [exec, execTrd, globalRegOfIndex_of_timerReg hn, hn, ht]

end Trd

theorem reads_accept (data : Word) (s : State) : Reads (accept data s) s data.toNat :=
  ⟨data, rfl, rfl⟩

/-- Settles O18: the index names a global register, a per-timer register or none, and a register read is
the number its fields make up. -/
theorem trdRule : Obligations.TrdRule := by
  intro s t reg
  have hillegal (hno : ¬ (reg.toNat ≤ 8 ∨ ((reg.toNat = 16 ∨ reg.toNat = 17) ∧ t.toNat = 0))) :
      Raises (exec (.trd t reg) s) s .illegalCommand := by
    rw [exec_trd_of_no_register (namesRegister_eq_false.mpr hno)]
    exact raises_raise _ _
  refine ⟨fun hglobal => ⟨fun ht => hillegal ?_, fun ht => ?_⟩,
    fun htimer => ⟨fun hnone => ?_, fun id hnames => ?_⟩, fun _ _ _ => hillegal (by omega)⟩
  · have : t.toNat ≠ 0 := fun h => ht (BitVec.eq_of_toNat_eq h)
    omega
  · obtain ⟨g, hg⟩ := exists_globalRegOfIndex hglobal
    rw [exec_trd_of_global hg ht, globalRegOfIndex_eq_some.mp hg, ← toNat_readGlobalReg]
    exact reads_accept _ _
  · obtain ⟨n, hn⟩ := exists_timerRegOfIndex htimer
    rw [exec_trd_of_no_timer hn (enabledTimer_eq_none_iff_namesNone.mpr hnone)]
    exact raises_raise _ _
  · obtain ⟨n, hn⟩ := exists_timerRegOfIndex htimer
    rw [exec_trd_of_timer hn (enabledTimer_eq_some_iff_names.mpr hnames),
      timerRegOfIndex_eq_some.mp hn, ← toNat_readTimerReg]
    exact reads_accept _ _

end Sys2Proof.Machine
end

section
/-! The global interrupt enable (45_system.md R120). -/

namespace Sys2Proof.Machine

open Sys2Proof.Claims

/-- `TINIT` sets the enable whatever it was (40_calibration.md R80). -/
theorem gie_of_exec_tinit {s s' : State} (h : exec .tinit s = .next s') : s'.gie = true := by
  rw [exec_tinit, accept_eq_next] at h
  rw [h, emit_gie, initialise_gie]

/-- Every step keeps the enable, except that `TINIT` sets it. -/
theorem step_gie {s s' : State} (h : step s = .next s') :
    ((IsCommand (nextMove s).1 fun i => i = .tinit) ∧ s'.gie = true) ∨ s'.gie = s.gie := by
  obtain ⟨-, hgie, -⟩ := nextMove_state s
  rcases runMove_gie_initDone h with ⟨w, i, hm, hw, rfl⟩ | ⟨hkept, -⟩
  · rw [step, hm, runMove_cmd_of_decode hw] at h
    exact .inl ⟨⟨w, .tinit, hm, hw, rfl⟩, gie_of_exec_tinit h⟩
  · exact .inr (hkept.trans hgie)

/-- Settles O39: a step other than `TINIT` keeps the enable, and `TINIT` sets it. -/
theorem globalEnableNeverCleared : Obligations.GlobalEnableNeverCleared := by
  intro s s' h
  rcases step_gie h with ⟨htinit, hset⟩ | hkept
  · exact ⟨fun _ => hset, fun _ _ => ⟨_, rfl, htinit⟩⟩
  · rw [hkept]
    exact ⟨id, fun hoff hon => absurd (hoff.symm.trans hon) Bool.false_ne_true⟩

end Sys2Proof.Machine
end

section
/-! The commands in main-line and in interrupt context (45_system.md R121, 60_exceptions.md R144): a command
run with another invocation in service has the same outcome but for that field. -/

namespace Sys2Proof.Machine

/-- The state with another invocation in service, or none. -/
def withContext (s : State) (x : Option (TimerId × Src)) : State := { s with inService := x }

/-- The outcome of a step, with another invocation in service, or none. -/
def inContext (x : Option (TimerId × Src)) :
    Host.Outcome State Fault Refusal → Host.Outcome State Fault Refusal
  | .next s' => .next (withContext s' x)
  | .fault f => .fault f
  | .refused r => .refused r

section

variable (s : State) (x : Option (TimerId × Src))

@[simp] theorem withContext_timers : (withContext s x).timers = s.timers := rfl
@[simp] theorem withContext_config : (withContext s x).config = s.config := rfl

theorem setDuty_withContext (v : PwmVariant) (t pol : BitVec 2) (percent : BitVec 8) :
    setDuty v t pol percent (withContext s x) = inContext x (setDuty v t pol percent s) := by
  simp only [setDuty]
  rw [withContext_config, withContext_timers]
  split <;> [rfl; (split <;> [(split <;> rfl); rfl])]

/-- `GSTAT` is the one register that shows the context (20_memory.md R47). -/
theorem execTrd_withContext {t : BitVec 2} {reg : BitVec 8} (h : reg ≠ 0x10) :
    execTrd t reg (withContext s x) = inContext x (execTrd t reg s) := by
  simp only [execTrd]
  rw [withContext_config, withContext_timers]
  split
  · next g hg =>
    cases g with
    | gstat => exact absurd (BitVec.eq_of_toNat_eq (globalRegOfIndex_eq_some.mp hg)) h
    | fcpu => split <;> rfl
  · split <;> [(split <;> rfl); rfl]

/-- Each branch of a command's definition reads the timers and the parameters, and ends in `raise`, in
`accept` or in a refusal. -/
theorem exec_withContext {i : Instr} (htiret : i ≠ .tiret) (htrd : ∀ t, i ≠ .trd t 0x10) :
    exec i (withContext s x) = inContext x (exec i s) := by
  cases i with
  | tinit => rfl
  | tpresc t code =>
    simp only [exec, execTpresc]
    rw [withContext_config, withContext_timers]
    split <;> [rfl; (split <;> [rfl; (split <;> rfl)])]
  | tsettime t mode ms =>
    simp only [exec, execTsettime]
    rw [withContext_config, withContext_timers]
    split <;> [rfl; (split <;> [rfl; (split <;> [rfl; (split <;> [rfl; (split <;> rfl)])])])]
  | tsetcb t fn ctx =>
    simp only [exec, execTsetcb]
    rw [withContext_config, withContext_timers]
    split <;> [rfl; (split <;> rfl)]
  | tstart t =>
    simp only [exec, execTstart]
    rw [withContext_config, withContext_timers]
    split <;> [rfl; (split <;> rfl)]
  | tstop t =>
    simp only [exec, execTstop]
    rw [withContext_config, withContext_timers]
    split <;> rfl
  | tpwmf t pol percent => exact setDuty_withContext s x .fast t pol percent
  | tpwmp t pol percent => exact setDuty_withContext s x .phaseCorrect t pol percent
  | tiret => exact absurd rfl htiret
  | trd t reg => exact execTrd_withContext s x fun h => htrd t (by rw [h])

end

/-- Settles O41: no command but the two that are excluded reads the invocation in service. -/
theorem commandsIgnoreContext : Obligations.CommandsIgnoreContext := by
  intro i s x htiret htrd
  refine (exec_withContext s x htiret htrd).trans ?_
  cases exec i s <;> rfl

end Sys2Proof.Machine
end

section
/-! The outcomes of a tick and of a dispatch (60_exceptions.md R130 to R142): when each is a step, and the
writes of one. A tick counts towards the event of its mode, the overflow at 0 or the compare match at the
compare value; both modes are one rule. -/

namespace Sys2Proof.Machine

open Sys2Proof.Claims

/-! ### Writes on one timer -/

@[simp] theorem setTimer_setTimer (s : State) (t : TimerId) (r r' : Timer) :
    setTimer (setTimer s t r) t r' = setTimer s t r' := by
  simp [setTimer]

@[simp] theorem setTimer_get_self (s : State) (t : TimerId) : setTimer s t (s.timers.get t) = s := by
  simp [setTimer]

/-- A write on one timer leaves the others, the global state and the outputs (10_state.md R35). -/
theorem setTimer_frame (s : State) (t : TimerId) (r : Timer) :
    (∀ u, u ≠ t → (setTimer s t r).timers.get u = s.timers.get u) ∧ GlobalsKept s (setTimer s t r)
      ∧ (setTimer s t r).obs = s.obs :=
  ⟨fun _ hu => get_set_other _ _ hu, ⟨rfl, rfl, rfl, rfl, rfl, rfl⟩, rfl⟩

/-! ### The event of a mode -/

/-- The waveform mode in which the counter raises events of the source (60_exceptions.md R131, R132). -/
def wgmOfSrc : Src → Wgm
  | .ovf => .normal
  | .cmp => .ctc

/-- The count whose reaching is the event of the source (60_exceptions.md R131, R132). -/
def eventCount (r : Timer) : Src → Nat
  | .ovf => 0
  | .cmp => r.ocr.toNat

/-- The timer with its counter at `n`. -/
def atCount (r : Timer) (n : Nat) : Timer := { r with cnt := BitVec.ofNat 16 n }

/-- The timer with an event of the source raised: a flag already set stays set (60_exceptions.md R130). -/
def raiseEvent (r : Timer) : Src → Timer
  | .ovf => { r with pendOvf := true }
  | .cmp => { r with pendCmp := true }

/-- The count after one tick, modulo the capacity (60_exceptions.md R131, R132). -/
def countAfter (t : TimerId) (r : Timer) : Nat := (r.cnt.toNat + 1) % cap t

/-- One tick in the mode of the source: on reaching the count of the event, the event is raised and the
counter is at 0. -/
def tickOf (src : Src) (t : TimerId) (r : Timer) : Timer :=
  if countAfter t r = eventCount r src then raiseEvent (atCount r 0) src else atCount r (countAfter t r)

section TickOf

variable {src : Src} {t : TimerId} {r : Timer}

theorem tickOf_of_event (h : countAfter t r = eventCount r src) :
    tickOf src t r = raiseEvent (atCount r 0) src :=
  if_pos h

theorem tickOf_of_no_event (h : countAfter t r ≠ eventCount r src) :
    tickOf src t r = atCount r (countAfter t r) :=
  if_neg h

theorem nextCount_eq_iff {x : Half} : nextCount t r = x ↔ countAfter t r = x.toNat := by
  rw [← BitVec.toNat_inj, nextCount_toNat, countAfter]

/-- The tick of Normal mode is that of the overflow source (60_exceptions.md R131). -/
theorem normalTick_eq_tickOf (t : TimerId) (r : Timer) : normalTick t r = tickOf .ovf t r := by
  by_cases h : countAfter t r = 0
  · have hzero : nextCount t r = 0 := nextCount_eq_iff.mpr h
    simp [tickOf_of_event (src := .ovf) h, normalTick, hzero, raiseEvent, atCount]
  · have hne : nextCount t r ≠ 0 := mt nextCount_eq_iff.mp h
    rw [tickOf_of_no_event (src := .ovf) h, normalTick, beq_false_of_ne hne, Bool.or_false]
    rfl

/-- The tick of CTC mode is that of the compare-match source (60_exceptions.md R132). -/
theorem ctcTick_eq_tickOf (t : TimerId) (r : Timer) : ctcTick t r = tickOf .cmp t r := by
  by_cases h : countAfter t r = r.ocr.toNat
  · have hmatch : nextCount t r = r.ocr := nextCount_eq_iff.mpr h
    simp [tickOf_of_event (src := .cmp) h, ctcTick, hmatch, raiseEvent, atCount]
  · have hne : nextCount t r ≠ r.ocr := mt nextCount_eq_iff.mp h
    rw [tickOf_of_no_event (src := .cmp) h, ctcTick, beq_false_of_ne hne, Bool.or_false, if_neg hne]
    rfl

end TickOf

/-! ### A tick as a step -/

section Tick

variable {s : State} {t : TimerId}

theorem runMove_tick_of_not_enabled
    (h : ¬ (s.config.enabled.get t = true ∧ (s.timers.get t).cs ≠ .off)) :
    runMove (.tick t) s = .refused .tickNotEnabled :=
  if_neg (mt tickEnabled_iff.mp h)

theorem runMove_tick_of_enabled (hon : s.config.enabled.get t = true) (hcs : (s.timers.get t).cs ≠ .off)
    {src : Src} (hwgm : (s.timers.get t).wgm = wgmOfSrc src) :
    runMove (.tick t) s = .next (setTimer s t (tickOf src t (s.timers.get t))) := by
  refine tickStep_eq_next.mpr ⟨tickEnabled_iff.mpr ⟨hon, hcs⟩, ?_⟩
  cases src with
  | ovf => exact .inl ⟨hwgm, by rw [normalTick_eq_tickOf]⟩
  | cmp => exact .inr ⟨hwgm, by rw [ctcTick_eq_tickOf]⟩

/-- A PWM mode gives an enabled tick no meaning (60_exceptions.md R133). -/
theorem runMove_tick_of_pwm (hon : s.config.enabled.get t = true) (hcs : (s.timers.get t).cs ≠ .off)
    (hwgm : (s.timers.get t).wgm = .fastPwm ∨ (s.timers.get t).wgm = .phasePwm) :
    runMove (.tick t) s = .refused .tickInPwmMode := by
  have hen : tickEnabled s t = true := tickEnabled_iff.mpr ⟨hon, hcs⟩
  rcases hwgm with hwgm | hwgm <;> simp only [runMove, tickStep, if_pos hen, hwgm]

/-- A mode is a PWM mode or the mode of a source. -/
theorem wgm_cases (w : Wgm) : (w = .fastPwm ∨ w = .phasePwm) ∨ ∃ src, w = wgmOfSrc src := by
  cases w with
  | normal => exact .inr ⟨.ovf, rfl⟩
  | ctc => exact .inr ⟨.cmp, rfl⟩
  | fastPwm => exact .inl (.inl rfl)
  | phasePwm => exact .inl (.inr rfl)

end Tick

/-- Settles O24: the three outcomes of a tick, by its enabling condition and its mode. -/
theorem tickEnabledExactly : Obligations.TickEnabledExactly := by
  intro s t
  refine ⟨runMove_tick_of_not_enabled, fun ⟨hon, hcs⟩ => runMove_tick_of_pwm hon hcs,
    fun ⟨hon, hcs⟩ hpwm => ?_⟩
  obtain ⟨src, hsrc⟩ := (wgm_cases (s.timers.get t).wgm).resolve_left hpwm
  exact ⟨_, runMove_tick_of_enabled hon hcs hsrc⟩

/-- Settles O26: the tick of CTC mode, its one write taken apart by field. -/
theorem ctcTickRule : Obligations.CtcTickRule := by
  intro s t hon hcs hwgm
  refine ⟨_, rfl, _, runMove_tick_of_enabled (src := .cmp) hon hcs hwgm, ?_, setTimer_frame s t _⟩
  rw [setTimer_timers, get_set_same, ← cap_eq_capacity, ← countAfter]
  by_cases h : countAfter t (s.timers.get t) = (s.timers.get t).ocr.toNat
  · rw [tickOf_of_event (src := .cmp) h, if_pos h, if_pos h]
    rfl
  · rw [tickOf_of_no_event (src := .cmp) h, if_neg h, if_neg h]
    rfl

/-- An event whose flag is set changes no flag (60_exceptions.md R130). -/
theorem raiseEvent_of_pending {r : Timer} {src : Src} (h : pending r src = true) : raiseEvent r src = r := by
  cases src with
  | ovf => rw [raiseEvent, ← show r.pendOvf = true from h]
  | cmp => rw [raiseEvent, ← show r.pendCmp = true from h]

/-- The event a tick would raise is that of the mode's source (60_exceptions.md R136). -/
theorem wgm_of_tickEvent {t : TimerId} {r : Timer} {src : Src} (h : tickEvent t r = some src) :
    r.wgm = wgmOfSrc src := by
  unfold tickEvent at h
  split at h
  · next hw => split at h <;> cases h; exact hw
  · next hw => split at h <;> cases h; exact hw
  · cases h
  · cases h

/-- A tick of a timer whose flag is set writes the counter alone. -/
theorem tickOf_of_pending {src : Src} {t : TimerId} {r : Timer} (h : pending r src = true) :
    ∃ n, tickOf src t r = atCount r n := by
  unfold tickOf
  split
  · exact ⟨0, raiseEvent_of_pending (by cases src <;> exact h)⟩
  · exact ⟨_, rfl⟩

/-- Settles O28: with the flag of its event set, the tick writes the counter alone. -/
theorem overrunLosesEvent : Obligations.OverrunLosesEvent := by
  rintro s s' t ⟨src, hevent, hpend⟩ h
  have hen := (tickStep_eq_next.mp h).1
  obtain ⟨hon, hcs⟩ := tickEnabled_iff.mp hen
  rw [runMove_tick_of_enabled hon hcs (wgm_of_tickEvent hevent)] at h
  obtain ⟨n, hn⟩ := tickOf_of_pending (t := t) hpend
  cases h
  rw [setTimer_timers, get_set_same, hn]
  exact ⟨rfl, rfl, rfl⟩

/-! ### A dispatch as a step -/

/-- The enabling condition of a dispatch, source by source (60_exceptions.md R137). -/
theorem dispatchEnabled_iff_by_source {s : State} {t : TimerId} {src : Src} :
    dispatchEnabled s t src = true ↔
      s.config.enabled.get t = true ∧ s.gie = true ∧ s.inService = none
        ∧ (src = .ovf → (s.timers.get t).pendOvf = true ∧ (s.timers.get t).ieOvf = true)
        ∧ (src = .cmp → (s.timers.get t).pendCmp = true ∧ (s.timers.get t).ieCmp = true) := by
  rw [dispatchEnabled_iff, Config.isEnabled]
  cases src <;> simp [pending, sourceEnabled] <;> tauto

theorem runMove_dispatch_of_enabled {s : State} {t : TimerId} {src : Src}
    (h : dispatchEnabled s t src = true) : runMove (.dispatch t src) s = .next (takeInterrupt s t src) :=
  if_pos h

theorem runMove_dispatch_of_not_enabled {s : State} {t : TimerId} {src : Src}
    (h : ¬ dispatchEnabled s t src = true) :
    runMove (.dispatch t src) s = .refused .dispatchNotEnabled :=
  if_neg h

/-- Settles O29: the two outcomes of a dispatch, by its enabling condition. -/
theorem dispatchEnabledExactly : Obligations.DispatchEnabledExactly := by
  intro s t src
  dsimp only
  rw [← dispatchEnabled_iff_by_source]
  exact ⟨fun h => ⟨_, runMove_dispatch_of_enabled h⟩, runMove_dispatch_of_not_enabled⟩

/-- The timer after a dispatch is that of the rule (60_exceptions.md R138). -/
theorem softTick_eq_servedTimer (r : Timer) (src : Src) : softTick r src = servedTimer r src := by
  cases src <;> simp [softTick, servedTimer, completesInterval]

/-- Settles O30: the soft tick on the timer of the dispatch, and beside it the two cases of the callback. -/
theorem dispatchRule : Obligations.DispatchRule := by
  intro s s' t src h
  obtain ⟨hen, rfl⟩ := dispatchStep_eq_next.mp h
  obtain ⟨-, -, -, -, hnone⟩ := dispatchEnabled_iff.mp hen
  rw [← softTick_eq_servedTimer, takeInterrupt_timers]
  refine ⟨get_set_same .., fun u hu => get_set_other _ _ hu, ?_⟩
  rcases takeInterrupt_cases s t src with ⟨hc, hf, hs⟩ | ⟨hno, hs⟩ <;> rw [hs]
  · exact ⟨rfl, rfl, rfl, rfl, rfl, fun _ => ⟨rfl, rfl⟩,
      fun hno => hno.elim (absurd (completesInterval_iff.mp hc)) (absurd · hf)⟩
  · rw [← Bool.not_eq_true, completesInterval_iff] at hno
    exact ⟨rfl, rfl, rfl, rfl, rfl, fun hyes => absurd hyes (by tauto), fun _ => ⟨hnone, rfl⟩⟩

/-- While an invocation is in service no dispatch is enabled (60_exceptions.md R142). -/
theorem dispatchEnabled_of_inService {s : State} (h : s.inService ≠ none) (t : TimerId) (src : Src) :
    ¬ dispatchEnabled s t src = true :=
  fun hen => h (dispatchEnabled_iff_by_source.mp hen).2.2.1

/-- Settles O31: the one step that puts an invocation in service is a dispatch, which is not enabled. -/
theorem dispatchesNeverNest : Obligations.DispatchesNeverNest := by
  intro s hs
  refine ⟨fun t src => runMove_dispatch_of_not_enabled (dispatchEnabled_of_inService hs t src),
    fun m s' h => ?_⟩
  rcases runMove_inService h with hkept | hiret | ⟨t, src, -, hen, -⟩
  · exact .inl hkept
  · exact .inr hiret
  · exact absurd hen (dispatchEnabled_of_inService hs t src)

end Sys2Proof.Machine
end

section
/-! The outcomes of a command over all ten (60_exceptions.md R123, R126): one response always, and no stop but
on the configuration of a running timer (93_implementation_defined.md U1). -/

namespace Sys2Proof.Machine

open Sys2Proof.Claims

/-- The writes of a command reach no output: its one response is appended after them. -/
theorem effect_obs {s s₁ : State} {i : Instr} {d : Word} (h : Effect s i s₁ d) : s₁.obs = s.obs := by
  cases h <;> rfl

/-- Settles O35: a command raises a status and only answers, or has its effect and answers `Ok`. -/
theorem errorStatusWritesNothing : Obligations.ErrorStatusWritesNothing := by
  intro w s s' h
  rcases commandStep_next h with ⟨st, -, rfl⟩ | ⟨i, s₁, d, -, he, rfl⟩
  · exact ⟨st, 0, rfl, fun _ => ⟨rfl, rfl⟩⟩
  · exact ⟨.ok, d, by rw [emit_obs, effect_obs he], fun hok => absurd rfl hok⟩

/-! ### Where a command stops -/

/-- The command configures timer `t` while its clock runs: `TPRESC` or `TSETTIME` (U1). -/
def ConfiguresRunning (s : State) (t : TimerId) (i : Instr) : Prop :=
  (s.timers.get t).cs ≠ .off ∧ ∃ x : BitVec 2, x.toNat = timerNumber t
    ∧ ((∃ c, i = .tpresc x c) ∨ ∃ y z, i = .tsettime x y z)

section

variable (s : State)

theorem exists_next_raise (st : Status) : ∃ s', raise st s = .next s' := ⟨_, rfl⟩

theorem exists_next_accept (d : Word) : ∃ s', accept d s = .next s' := ⟨_, rfl⟩

/-- Each branch of the duty operation raises or accepts. -/
theorem setDuty_goes_on (v : PwmVariant) (t pol : BitVec 2) (percent : BitVec 8) :
    ∃ s', setDuty v t pol percent s = .next s' := by
  unfold setDuty
  split
  · exact exists_next_raise ..
  · split
    · split
      · exact exists_next_raise ..
      · exact exists_next_accept ..
    · exact exists_next_raise ..

/-- Each branch of `TRD` raises or accepts. -/
theorem execTrd_goes_on (t : BitVec 2) (reg : BitVec 8) : ∃ s', execTrd t reg s = .next s' := by
  unfold execTrd
  split
  · split
    · exact exists_next_accept ..
    · exact exists_next_raise ..
  · split
    · split
      · exact exists_next_raise ..
      · exact exists_next_accept ..
    · exact exists_next_raise ..

theorem exec_tpresc_goes_on_or_stops (t : BitVec 2) (code : BitVec 8) :
    (∃ s', exec (.tpresc t code) s = .next s')
      ∨ (exec (.tpresc t code) s = .refused .configWhileRunning
        ∧ ∃ id, ConfiguresRunning s id (.tpresc t code)) := by
  cases ht : enabledTimer s.config t with
  | none => exact .inl ⟨_, exec_tpresc_of_no_timer ht⟩
  | some id =>
    cases hp : prescOperand code with
    | none => exact .inl ⟨_, exec_tpresc_of_no_divisor ht hp⟩
    | some p =>
      by_cases hc : (s.timers.get id).cs = .off
      · exact .inl ⟨_, exec_tpresc_of_stopped ht hp hc⟩
      · exact .inr ⟨exec_tpresc_of_running ht hp hc,
          id, hc, t, toNat_of_enabledTimer ht, .inl ⟨code, rfl⟩⟩

theorem exec_tsettime_goes_on_or_stops (t mode : BitVec 2) (ms : Half) :
    (∃ s', exec (.tsettime t mode ms) s = .next s')
      ∨ (exec (.tsettime t mode ms) s = .refused .configWhileRunning
        ∧ ∃ id, ConfiguresRunning s id (.tsettime t mode ms)) := by
  cases ht : enabledTimer s.config t with
  | none => exact .inl ⟨_, exec_tsettime_of_no_timer ht⟩
  | some id =>
    cases hm : modeOperand mode with
    | none => exact .inl ⟨_, exec_tsettime_of_no_mode ht hm⟩
    | some md =>
      by_cases hp : (s.timers.get id).presc = .off
      · exact .inl ⟨_, exec_tsettime_of_no_divisor ht hm hp⟩
      cases hd : decompose s.config id md (s.timers.get id).ttnum.toNat ms.toNat with
      | none => exact .inl ⟨_, exec_tsettime_of_rejected ht hm hp hd⟩
      | some d =>
        by_cases hc : (s.timers.get id).cs = .off
        · exact .inl ⟨_, exec_tsettime_of_stopped ht hm hp hd hc⟩
        · exact .inr ⟨exec_tsettime_of_running ht hm hp hd hc,
            id, hc, t, toNat_of_enabledTimer ht, .inr ⟨mode, ms, rfl⟩⟩

/-- A command goes on, or it configures a running timer. -/
theorem exec_goes_on_or_stops (i : Instr) :
    (∃ s', exec i s = .next s')
      ∨ (exec i s = .refused .configWhileRunning ∧ ∃ id, ConfiguresRunning s id i) := by
  cases i with
  | tinit => exact .inl ⟨_, rfl⟩
  | tpresc t code => exact exec_tpresc_goes_on_or_stops s t code
  | tsettime t mode ms => exact exec_tsettime_goes_on_or_stops s t mode ms
  | tsetcb t fn ctx =>
    cases ht : enabledTimer s.config t with
    | none => exact .inl ⟨_, exec_tsetcb_of_no_timer ht⟩
    | some id =>
      by_cases hf : fn = 0
      · exact .inl ⟨_, exec_tsetcb_of_null ht hf⟩
      · exact .inl ⟨_, exec_tsetcb_of_function ht hf⟩
  | tstart t =>
    cases ht : enabledTimer s.config t with
    | none => exact .inl ⟨_, exec_tstart_of_no_timer ht⟩
    | some id =>
      by_cases hs : (s.timers.get id).st = .unconfigured
      · exact .inl ⟨_, exec_tstart_of_unconfigured ht hs⟩
      · exact .inl ⟨_, exec_tstart_of_configured ht hs⟩
  | tstop t =>
    cases ht : enabledTimer s.config t with
    | none => exact .inl ⟨_, exec_tstop_of_no_timer ht⟩
    | some id => exact .inl ⟨_, exec_tstop_of_timer ht⟩
  | tpwmf t pol percent => exact .inl (setDuty_goes_on s .fast t pol percent)
  | tpwmp t pol percent => exact .inl (setDuty_goes_on s .phaseCorrect t pol percent)
  | tiret =>
    cases hx : s.inService with
    | none => exact .inl ⟨_, exec_tiret_of_none hx⟩
    | some x => exact .inl ⟨_, exec_tiret_of_some hx⟩
  | trd t reg => exact .inl (execTrd_goes_on s t reg)

end

/-- Settles O47: each kind of step by its own condition, a command by what it decodes to. -/
theorem stopsOnlyWhereNoMeaning : Obligations.StopsOnlyWhereNoMeaning := by
  intro m s
  cases m with
  | cmd w =>
    cases hw : decode w with
    | error e => exact .inl ⟨_, by rw [runMove, commandStep, hw]; rfl⟩
    | ok i =>
      rw [runMove_cmd_of_decode hw]
      rcases exec_goes_on_or_stops s i with hnext | ⟨hstop, id, hcs, hconf⟩
      · exact .inl hnext
      · exact .inr (.inl ⟨hstop, id, hcs, w, i, rfl, hw, hconf⟩)
  | tick t =>
    by_cases hen : s.config.enabled.get t = true ∧ (s.timers.get t).cs ≠ .off
    · obtain ⟨hon, hcs⟩ := hen
      rcases wgm_cases (s.timers.get t).wgm with hpwm | ⟨src, hsrc⟩
      · exact .inr (.inr (.inl ⟨runMove_tick_of_pwm hon hcs hpwm, t, rfl, hon, hcs, hpwm⟩))
      · exact .inl ⟨_, runMove_tick_of_enabled hon hcs hsrc⟩
    · refine .inr (.inr (.inr (.inl ⟨runMove_tick_of_not_enabled hen, t, rfl, ?_⟩)))
      rwa [not_and_or, Bool.not_eq_true, not_not] at hen
  | dispatch t src =>
    by_cases hen : dispatchEnabled s t src = true
    · exact .inl ⟨_, runMove_dispatch_of_enabled hen⟩
    · exact .inr (.inr (.inr (.inr ⟨runMove_dispatch_of_not_enabled hen,
        t, src, rfl, mt dispatchEnabled_iff_by_source.mpr hen⟩)))

end Sys2Proof.Machine
end

section
/-! Counting modulo a capacity: after how many increments a count is reached for the first time. The hardware
counter and the accumulator of the soft ticks both count so (60_exceptions.md R131, R132, R145). -/

namespace Sys2Proof.Machine

open Sys2Proof.Claims

/-- How many increments modulo `cap` lead from `c` to `d` for the first time, at least one. -/
def stepsTo (cap c d : Nat) : Nat := if c < d then d - c else cap - c + d

theorem stepsTo_pos {cap c d : Nat} (hc : c < cap) : 0 < stepsTo cap c d := by
  unfold stepsTo
  split <;> omega

/-- Up to that many increments, the count is `d` after the last of them and after no earlier one. -/
theorem add_mod_eq_iff_stepsTo {cap c d k : Nat} (hc : c < cap) (hd : d < cap) (hk : k < stepsTo cap c d) :
    (c + (k + 1)) % cap = d ↔ k + 1 = stepsTo cap c d := by
  unfold stepsTo at hk ⊢
  rcases lt_or_ge c d with hbelow | habove
  · rw [if_pos hbelow] at hk ⊢
    rw [Nat.mod_eq_of_lt (by omega)]
    omega
  · rw [if_neg habove.not_gt] at hk ⊢
    rcases lt_or_ge (c + (k + 1)) cap with hbefore | hwrapped
    · rw [Nat.mod_eq_of_lt hbefore]
      omega
    · rw [Nat.mod_eq_sub_mod hwrapped, Nat.mod_eq_of_lt (by omega)]
      omega

/-! ### The accumulator -/

theorem iterate_softTick_tickCount (r : Timer) (src : Src) (j : Nat) :
    ((fun r => softTick r src)^[j] r).tickCount = r.tickCount := by
  induction j with
  | zero => rfl
  | succ j ih => rw [Function.iterate_succ_apply', softTick_tickCount, ih]

/-- The accumulator reaches the target, as numbers (10_state.md R22). -/
theorem completesInterval_iff_toNat {r : Timer} :
    completesInterval r = true ↔ (r.curTicks.toNat + 1) % 2 ^ 32 = r.tickCount.toNat := by
  rw [completesInterval_iff, ← BitVec.toNat_inj, BitVec.toNat_add]
  rfl

/-- A soft tick that does not complete the interval counts modulo 2^32 (60_exceptions.md R138). -/
theorem softTick_curTicks_toNat {r : Timer} (src : Src) (h : completesInterval r = false) :
    (softTick r src).curTicks.toNat = (r.curTicks.toNat + 1) % 2 ^ 32 := by
  rw [softTick_curTicks, h, if_neg Bool.false_ne_true, BitVec.toNat_add]
  rfl

/-- After `j` soft ticks that do not reach the target, the next completes the interval exactly when it is
the first to reach it. -/
theorem completesInterval_iterate_iff {r : Timer} {src : Src} {j : Nat}
    (hcount : ((fun r => softTick r src)^[j] r).curTicks.toNat = (r.curTicks.toNat + j) % 2 ^ 32)
    (hj : j < stepsTo (2 ^ 32) r.curTicks.toNat r.tickCount.toNat) :
    completesInterval ((fun r => softTick r src)^[j] r) = true
      ↔ j + 1 = stepsTo (2 ^ 32) r.curTicks.toNat r.tickCount.toNat := by
  rw [completesInterval_iff_toNat, hcount, iterate_softTick_tickCount, Nat.mod_add_mod, Nat.add_assoc]
  exact add_mod_eq_iff_stepsTo r.curTicks.isLt r.tickCount.isLt hj

theorem iterate_softTick_curTicks {r : Timer} {src : Src} {j : Nat}
    (hj : j < stepsTo (2 ^ 32) r.curTicks.toNat r.tickCount.toNat) :
    ((fun r => softTick r src)^[j] r).curTicks.toNat = (r.curTicks.toNat + j) % 2 ^ 32 := by
  induction j with
  | zero => exact (Nat.mod_eq_of_lt r.curTicks.isLt).symm
  | succ j ih =>
    have hcount := ih (by omega)
    have hno := mt (completesInterval_iterate_iff hcount (by omega)).mp (by omega)
    rw [Function.iterate_succ_apply', softTick_curTicks_toNat src (Bool.eq_false_of_not_eq_true hno), hcount,
      Nat.mod_add_mod, Nat.add_assoc]

/-- Settles O32: until the target is reached for the first time the accumulator counts modulo 2^32. -/
theorem firstCompletingDispatch : Obligations.FirstCompletingDispatch := by
  rintro r src k n first rfl rfl - rfl j hj
  have hcount := iterate_softTick_curTicks (src := src) hj
  exact ⟨completesInterval_iterate_iff hcount hj, hcount⟩

end Sys2Proof.Machine
end

section
/-! Runs of offered steps (43_run_control.md R104; log 2): their composition, what they output, and the runs of
ticks of one timer. -/

namespace Sys2Proof.Machine

open Sys2Proof.Claims

/-! ### Runs -/

/-- The given steps, taken one after the other from the first state, end in the second. -/
inductive Runs : State → List Move → State → Prop where
  | nil (s : State) : Runs s [] s
  | cons {s s₁ s' : State} {m : Move} {moves : List Move} (h : runMove m s = .next s₁)
      (hrest : Runs s₁ moves s') : Runs s (m :: moves) s'

theorem Runs.single {s s' : State} {m : Move} (h : runMove m s = .next s') : Runs s [m] s' :=
  .cons h (.nil s')

theorem Runs.append {s s₁ s' : State} {a b : List Move} (ha : Runs s a s₁) (hb : Runs s₁ b s') :
    Runs s (a ++ b) s' := by
  induction ha with
  | nil => exact hb
  | cons h _ ih => exact .cons h (ih hb)

/-- A run of a list in two parts stops between them. -/
theorem Runs.split {s s' : State} {a b : List Move} (h : Runs s (a ++ b) s') :
    ∃ s₁, Runs s a s₁ ∧ Runs s₁ b s' := by
  induction a generalizing s with
  | nil => exact ⟨s, .nil s, h⟩
  | cons m a ih =>
    cases h with
    | cons hm hrest =>
      obtain ⟨s₁, ha, hb⟩ := ih hrest
      exact ⟨s₁, .cons hm ha, hb⟩

/-- The machine run on exactly the given steps takes them one after the other. -/
theorem offered_of_runs {s s' : State} {moves : List Move} (h : Runs s moves s') :
    offered s moves = .next { s' with agenda := [] } := by
  induction h with
  | nil => rfl
  | @cons s s₁ s' m moves hm _ ih =>
    have hstep : step { s with agenda := m :: moves } = .next { s₁ with agenda := moves } := by
      rw [step_offered (rest := moves) rfl]
      exact (runMove_agenda m s moves).trans (by rw [hm])
    exact (core_run_next hstep).trans ih

/-- No step takes an output back (10_state.md R41). -/
theorem runMove_obs_grows {m : Move} {s s' : State} (h : runMove m s = .next s') : s.obs <+: s'.obs := by
  rcases runMove_next h with ⟨w, st, rfl, -, rfl⟩ | ⟨w, i, s₁, d, rfl, -, he, rfl⟩
      | ⟨t, rfl, -, ⟨-, rfl⟩ | ⟨-, rfl⟩⟩ | ⟨t, src, rfl, -, rfl⟩
  · exact ⟨_, rfl⟩
  · rw [emit_obs, effect_obs he]
    exact ⟨_, rfl⟩
  · exact ⟨[], List.append_nil _⟩
  · exact ⟨[], List.append_nil _⟩
  · rcases takeInterrupt_cases s t src with ⟨-, -, hs⟩ | ⟨-, hs⟩ <;> rw [hs]
    · exact ⟨_, rfl⟩
    · exact ⟨[], List.append_nil _⟩

theorem Runs.obs_grows {s s' : State} {moves : List Move} (h : Runs s moves s') : s.obs <+: s'.obs := by
  induction h with
  | nil => exact ⟨[], List.append_nil _⟩
  | cons hm _ ih => exact (runMove_obs_grows hm).trans ih

/-- Every part of a run without an output is one. -/
theorem Runs.silent_part {s s' : State} {a b : List Move} (h : Runs s (a ++ b) s') (hobs : s'.obs = s.obs) :
    ∃ s₁, Runs s a s₁ ∧ s₁.obs = s.obs := by
  obtain ⟨s₁, ha, hb⟩ := h.split
  have hback : s₁.obs <+: s.obs := hobs ▸ hb.obs_grows
  exact ⟨s₁, ha, (ha.obs_grows.eq_of_length_le hback.length_le).symm⟩

/-! ### Runs of ticks -/

/-- After how many ticks the next event of the source comes. -/
def firstEvent (src : Src) (t : TimerId) (r : Timer) : Nat := stepsTo (cap t) r.cnt.toNat (eventCount r src)

/-- The timer after `k` ticks, up to the first event. -/
def counted (src : Src) (t : TimerId) (r : Timer) (k : Nat) : Timer :=
  if k = firstEvent src t r then raiseEvent (atCount r 0) src else atCount r ((r.cnt.toNat + k) % cap t)

section Counted

variable {src : Src} {t : TimerId} {r : Timer}

/-- The timer once the first event has come. -/
theorem counted_firstEvent : counted src t r (firstEvent src t r) = raiseEvent (atCount r 0) src :=
  if_pos rfl

theorem counted_of_ne {k : Nat} (h : k ≠ firstEvent src t r) :
    counted src t r k = atCount r ((r.cnt.toNat + k) % cap t) :=
  if_neg h

theorem counted_zero (hcnt : r.cnt.toNat < cap t) : counted src t r 0 = r := by
  have hself : atCount r r.cnt.toNat = r := by simp [atCount]
  rw [counted_of_ne (stepsTo_pos hcnt).ne, Nat.add_zero, Nat.mod_eq_of_lt hcnt, hself]

theorem countAfter_counted {k : Nat} (hk : k < firstEvent src t r) :
    countAfter t (counted src t r k) = (r.cnt.toNat + (k + 1)) % cap t := by
  rw [counted_of_ne hk.ne, countAfter, atCount]
  dsimp only
  rw [toNat_ofNat_of_lt_cap (Nat.mod_lt _ (cap_pos t)), Nat.mod_add_mod, Nat.add_assoc]

/-- One tick more: the event comes with the last of them and with no earlier one. -/
theorem tickOf_counted {k : Nat} (hcnt : r.cnt.toNat < cap t) (hevent : eventCount r src < cap t)
    (hk : k < firstEvent src t r) :
    tickOf src t (counted src t r k) = counted src t r (k + 1) := by
  have hafter := countAfter_counted hk
  have hiff : (r.cnt.toNat + (k + 1)) % cap t = eventCount r src ↔ k + 1 = firstEvent src t r :=
    add_mod_eq_iff_stepsTo hcnt hevent hk
  have hcounted := counted_of_ne hk.ne
  have hsame : eventCount (counted src t r k) src = eventCount r src := by
    rw [hcounted]
    cases src <;> rfl
  by_cases hlast : k + 1 = firstEvent src t r
  · rw [tickOf_of_event (hafter.trans ((hiff.mpr hlast).trans hsame.symm)), hcounted, hlast,
      counted_firstEvent]
    rfl
  · rw [tickOf_of_no_event (fun h => hlast (hiff.mp (hafter.symm.trans (h.trans hsame)))), hafter,
      hcounted, counted_of_ne hlast]
    rfl

theorem counted_cs (k : Nat) : (counted src t r k).cs = r.cs := by
  unfold counted
  split <;> cases src <;> rfl

theorem counted_wgm (k : Nat) : (counted src t r k).wgm = r.wgm := by
  unfold counted
  split <;> cases src <;> rfl

end Counted

/-- Ticks of an enabled timer in the mode of the source, up to its first event (60_exceptions.md R131,
R132). -/
theorem runs_ticksOf {s : State} {t : TimerId} {src : Src} (hon : s.config.enabled.get t = true)
    (hcs : (s.timers.get t).cs ≠ .off) (hwgm : (s.timers.get t).wgm = wgmOfSrc src)
    (hcnt : (s.timers.get t).cnt.toNat < cap t) (hevent : eventCount (s.timers.get t) src < cap t)
    {k : Nat} (hk : k ≤ firstEvent src t (s.timers.get t)) :
    Runs s (ticksOf t k) (setTimer s t (counted src t (s.timers.get t) k)) := by
  induction k with
  | zero =>
    rw [counted_zero hcnt, setTimer_get_self]
    exact .nil s
  | succ k ih =>
    have htick := runMove_tick_of_enabled (s := setTimer s t (counted src t (s.timers.get t) k)) (t := t)
      (src := src) hon (by simpa [counted_cs] using hcs) (by simpa [counted_wgm] using hwgm)
    rw [setTimer_timers, get_set_same, setTimer_setTimer, tickOf_counted hcnt hevent hk] at htick
    rw [ticksOf, List.replicate_succ']
    exact (ih (by omega)).append (.single htick)

/-- The ticks up to the first event of the source end with it, the counter at 0. -/
theorem runs_to_event {s : State} {t : TimerId} {src : Src} (hon : s.config.enabled.get t = true)
    (hcs : (s.timers.get t).cs ≠ .off) (hwgm : (s.timers.get t).wgm = wgmOfSrc src)
    (hcnt : (s.timers.get t).cnt.toNat < cap t) (hevent : eventCount (s.timers.get t) src < cap t) :
    Runs s (ticksOf t (firstEvent src t (s.timers.get t)))
      (setTimer s t (raiseEvent (atCount (s.timers.get t) 0) src)) :=
  counted_firstEvent ▸ runs_ticksOf hon hcs hwgm hcnt hevent (Nat.le_refl _)

/-- Settles O27: the closed form of the run of `k` ticks, read off by field. -/
theorem firstCompareMatch : Obligations.FirstCompareMatch := by
  rintro s t c d first hon hcs hwgm rfl rfl hcnt - hd hfirst k hk
  rw [← cap_eq_capacity] at hcnt hd hfirst ⊢
  have hfirst : first = firstEvent .cmp t (s.timers.get t) := hfirst
  subst hfirst
  refine ⟨_, offered_of_runs (runs_ticksOf (src := .cmp) hon hcs hwgm hcnt hd hk), ?_⟩
  rw [setTimer_timers, get_set_same]
  by_cases hlast : k = firstEvent .cmp t (s.timers.get t)
  · rw [hlast, counted_firstEvent]
    simp [raiseEvent, atCount]
  · rw [counted_of_ne hlast, if_neg hlast]
    exact ⟨toNat_ofNat_of_lt_cap (Nat.mod_lt _ (cap_pos t)), by simp [atCount, hlast], rfl⟩

/-- Settles O25: the tick of Normal mode by field, and the closed form of the run of `k` ticks. -/
theorem normalTickRule : Obligations.NormalTickRule := by
  intro s t hon hcs hwgm
  rw [← cap_eq_capacity]
  refine ⟨⟨_, rfl, _, runMove_tick_of_enabled (src := .ovf) hon hcs hwgm, ?_, setTimer_frame s t _⟩,
    fun hcnt k hk => ?_⟩
  · rw [setTimer_timers, get_set_same, ← countAfter]
    by_cases h : countAfter t (s.timers.get t) = 0
    · rw [tickOf_of_event (src := .ovf) h, if_pos h, h]
      rfl
    · rw [tickOf_of_no_event (src := .ovf) h, if_neg h]
      rfl
  · have hfirst : firstEvent .ovf t (s.timers.get t) = cap t - (s.timers.get t).cnt.toNat := rfl
    rw [← hfirst] at hk ⊢
    refine ⟨_, offered_of_runs (runs_ticksOf (src := .ovf) hon hcs hwgm hcnt (cap_pos t) hk), ?_⟩
    rw [setTimer_timers, get_set_same]
    by_cases hlast : k = firstEvent .ovf t (s.timers.get t)
    · have hwrap : ((s.timers.get t).cnt.toNat + k) % cap t = 0 := by
        rw [hlast, hfirst, Nat.add_sub_of_le hcnt.le, Nat.mod_self]
      rw [hwrap, hlast, counted_firstEvent]
      simp [raiseEvent, atCount]
    · rw [counted_of_ne hlast]
      exact ⟨toNat_ofNat_of_lt_cap (Nat.mod_lt _ (cap_pos t)), by simp [atCount, hlast], rfl⟩

end Sys2Proof.Machine
end

section
/-! One interval is exact (60_exceptions.md R145): with each dispatch taken before the next tick, the ticks and
dispatches of an interval bring the timer back to its start and invoke the callback once. Both modes are
one argument, over the source of the mode. -/

namespace Sys2Proof.Machine

open Sys2Proof.Claims

/-! ### The start of an interval -/

/-- A timer at the start of an interval in the mode of the source: it runs and nothing holds it off, no
dispatch of the interval has been taken, and the counter is where the last dispatch leaves it
(60_exceptions.md R145). -/
structure IntervalStart (s : State) (t : TimerId) (src : Src) : Prop where
  servable : Servable s t
  wgm : (s.timers.get t).wgm = wgmOfSrc src
  enabled : sourceEnabled (s.timers.get t) src = true
  not_pending : pending (s.timers.get t) src = false
  curTicks : (s.timers.get t).curTicks = 0
  target : 1 ≤ (s.timers.get t).tickCount.toNat
  reload : (s.timers.get t).cnt = if src = .ovf then (s.timers.get t).preload else 0
  cnt_lt : (s.timers.get t).cnt.toNat < cap t
  event_lt : eventCount (s.timers.get t) src < cap t

/-! ### The timer within an interval -/

/-- The timer after `j` dispatches of an interval, the last of which did not complete it. -/
def served (r : Timer) (j : Nat) : Timer := { atCount r 0 with curTicks := BitVec.ofNat 32 j }

/-- The timer after `j` dispatches of an interval, with the next one waiting. -/
def waiting (r : Timer) (src : Src) (j : Nat) : Timer := raiseEvent (served r j) src

section Within

variable {r : Timer} {src : Src} {j : Nat}

theorem waiting_zero (h : r.curTicks = 0) : waiting r src 0 = raiseEvent (atCount r 0) src := by
  have hserved : served r 0 = atCount r 0 := by simp [served, atCount, h]
  rw [waiting, hserved]

theorem waiting_curTicks : (waiting r src j).curTicks = BitVec.ofNat 32 j := by cases src <;> rfl

theorem waiting_cnt : (waiting r src j).cnt = 0 := by cases src <;> rfl

theorem waiting_preload : (waiting r src j).preload = r.preload := by cases src <;> rfl

theorem waiting_tickCount : (waiting r src j).tickCount = r.tickCount := by cases src <;> rfl

theorem completesInterval_waiting (hj : j < r.tickCount.toNat) :
    completesInterval (waiting r src j) = decide (j + 1 = r.tickCount.toNat) := by
  have htarget := r.tickCount.isLt
  rw [Bool.eq_iff_iff, completesInterval_iff_toNat, waiting_curTicks, waiting_tickCount, decide_eq_true_iff,
    BitVec.toNat_ofNat, Nat.mod_add_mod, Nat.mod_eq_of_lt (by omega)]

theorem softTick_waiting_pendOvf (hp : pending r src = false) :
    (softTick (waiting r src j) src).pendOvf = r.pendOvf := by
  cases src with
  | ovf => exact hp.symm
  | cmp => exact Bool.and_true _

theorem softTick_waiting_pendCmp (hp : pending r src = false) :
    (softTick (waiting r src j) src).pendCmp = r.pendCmp := by
  cases src with
  | ovf => exact Bool.and_true _
  | cmp => exact hp.symm

/-- With its flag clear at the start, a dispatch leaves the timer changed in its counter and accumulator
only. -/
theorem softTick_waiting_eq (hp : pending r src = false) :
    softTick (waiting r src j) src =
      { r with
        cnt := (softTick (waiting r src j) src).cnt
        curTicks := (softTick (waiting r src j) src).curTicks } := by
  have hframe : softTick (waiting r src j) src =
      { r with
        cnt := (softTick (waiting r src j) src).cnt
        curTicks := (softTick (waiting r src j) src).curTicks
        pendOvf := (softTick (waiting r src j) src).pendOvf
        pendCmp := (softTick (waiting r src j) src).pendCmp } := by
    cases src <;> rfl
  rwa [softTick_waiting_pendOvf hp, softTick_waiting_pendCmp hp] at hframe

/-- A dispatch before the target leaves the timer served once more. -/
theorem softTick_waiting (hp : pending r src = false) (hj : j + 1 < r.tickCount.toNat) :
    softTick (waiting r src j) src = served r (j + 1) := by
  have hc : completesInterval (waiting r src j) = false := by
    rw [completesInterval_waiting (by omega), decide_eq_false_iff_not]
    omega
  rw [softTick_waiting_eq hp, softTick_cnt, softTick_curTicks, hc, waiting_curTicks, waiting_cnt]
  simp [served, atCount, BitVec.ofNat_add]

/-- The dispatch at the target leaves the timer as at the start of the interval. -/
theorem softTick_waiting_last (hp : pending r src = false) (hcur : r.curTicks = 0)
    (hreload : r.cnt = if src = .ovf then r.preload else 0) (hj : j + 1 = r.tickCount.toNat) :
    softTick (waiting r src j) src = r := by
  have hc : completesInterval (waiting r src j) = true := by
    rw [completesInterval_waiting (by omega), decide_eq_true hj]
  have hcnt : (softTick (waiting r src j) src).cnt = r.cnt := by
    rw [softTick_cnt, hc, hreload, waiting_preload, waiting_cnt]
    cases src <;> rfl
  have hcur : (softTick (waiting r src j) src).curTicks = r.curTicks := by
    rw [softTick_curTicks, hc, if_pos rfl, hcur]
  rw [softTick_waiting_eq hp, hcnt, hcur]

end Within

/-! ### The run of an interval -/

section Interval

variable {s : State} {t : TimerId} {src : Src}

/-- The first period of an interval, from its start. -/
theorem runs_first_period (h : IntervalStart s t src) :
    Runs s (ticksOf t (firstEvent src t (s.timers.get t)))
      (setTimer s t (waiting (s.timers.get t) src 0)) := by
  obtain ⟨hon, hcs, -, -⟩ := h.servable
  rw [waiting_zero h.curTicks]
  exact runs_to_event hon hcs h.wgm h.cnt_lt h.event_lt

/-- Every further period of an interval, from a dispatch, with the counter at 0. -/
theorem runs_further_period (h : IntervalStart s t src) (j : Nat) :
    Runs (setTimer s t (served (s.timers.get t) j))
      (ticksOf t (stepsTo (cap t) 0 (eventCount (s.timers.get t) src)))
      (setTimer s t (waiting (s.timers.get t) src j)) := by
  obtain ⟨hon, hcs, -, -⟩ := h.servable
  have hget : (setTimer s t (served (s.timers.get t) j)).timers.get t = served (s.timers.get t) j :=
    get_set_same ..
  have hevent : eventCount (served (s.timers.get t) j) src = eventCount (s.timers.get t) src := by
    cases src <;> rfl
  have hrun := runs_to_event (s := setTimer s t (served (s.timers.get t) j)) (src := src) hon
    (by rw [hget]; exact hcs) (by rw [hget]; exact h.wgm) (by rw [hget]; exact cap_pos t)
    (by rw [hget, hevent]; exact h.event_lt)
  rw [hget, firstEvent, hevent, setTimer_setTimer] at hrun
  exact hrun

/-- The dispatch that waits is enabled throughout an interval. -/
theorem runMove_dispatch_waiting (h : IntervalStart s t src) (j : Nat) :
    runMove (.dispatch t src) (setTimer s t (waiting (s.timers.get t) src j)) =
      .next (takeInterrupt (setTimer s t (waiting (s.timers.get t) src j)) t src) := by
  obtain ⟨hon, -, hgie, hnone⟩ := h.servable
  have hpending : pending (waiting (s.timers.get t) src j) src = true := by cases src <;> rfl
  have henabled : sourceEnabled (waiting (s.timers.get t) src j) src = true := by
    rw [← h.enabled]
    cases src <;> rfl
  refine runMove_dispatch_of_enabled (dispatchEnabled_iff.mpr ⟨hon, ?_, ?_, hgie, hnone⟩) <;>
    rwa [setTimer_timers, get_set_same]

/-- A dispatch before the target is a soft tick alone. -/
theorem runMove_dispatch_before_target (h : IntervalStart s t src) {j : Nat}
    (hj : j + 1 < (s.timers.get t).tickCount.toNat) :
    runMove (.dispatch t src) (setTimer s t (waiting (s.timers.get t) src j)) =
      .next (setTimer s t (served (s.timers.get t) (j + 1))) := by
  have hc : completesInterval (waiting (s.timers.get t) src j) = false := by
    rw [completesInterval_waiting (by omega), decide_eq_false_iff_not]
    omega
  rw [runMove_dispatch_waiting h, takeInterrupt, setTimer_timers, get_set_same, hc,
    if_neg Bool.false_ne_true, setTimer_setTimer, softTick_waiting h.not_pending hj]

/-- The dispatch at the target ends where the interval began, and invokes the callback. -/
theorem runMove_dispatch_at_target (h : IntervalStart s t src) {j : Nat}
    (hj : j + 1 = (s.timers.get t).tickCount.toNat) :
    runMove (.dispatch t src) (setTimer s t (waiting (s.timers.get t) src j)) =
      .next (invokeCallback s t src) := by
  have hc : completesInterval (waiting (s.timers.get t) src j) = true := by
    rw [completesInterval_waiting (by omega), decide_eq_true hj]
  rw [runMove_dispatch_waiting h, takeInterrupt, setTimer_timers, get_set_same, hc, if_pos rfl,
    setTimer_setTimer, softTick_waiting_last h.not_pending h.curTicks h.reload hj, setTimer_get_self]

/-- The steps of an interval of `n` dispatches: the first period has `first` ticks, every further one
`period` (60_exceptions.md R145). -/
def intervalMoves (t : TimerId) (src : Src) (first period n : Nat) : List Move :=
  ticksOf t first ++ [.dispatch t src] ++ periods t src period (n - 1)

/-- One period more, at the end. -/
theorem periods_succ (t : TimerId) (src : Src) (period n : Nat) :
    periods t src period (n + 1) = periods t src period n ++ (ticksOf t period ++ [.dispatch t src]) := by
  rw [periods, List.replicate_succ', List.flatten_append, List.flatten_singleton, periods]

/-- The steps of `j + 1` periods of an interval, but for the last dispatch, end with that dispatch waiting. -/
theorem runs_but_last_dispatch (h : IntervalStart s t src) {j : Nat}
    (hj : j < (s.timers.get t).tickCount.toNat) :
    ∃ init, intervalMoves t src (firstEvent src t (s.timers.get t))
        (stepsTo (cap t) 0 (eventCount (s.timers.get t) src)) (j + 1) = init ++ [.dispatch t src]
      ∧ Runs s init (setTimer s t (waiting (s.timers.get t) src j)) := by
  induction j with
  | zero => exact ⟨_, List.append_nil _, runs_first_period h⟩
  | succ j ih =>
    obtain ⟨init, hinit, hrun⟩ := ih (by omega)
    refine ⟨init ++ [.dispatch t src] ++ ticksOf t (stepsTo (cap t) 0 (eventCount (s.timers.get t) src)),
      ?_, (hrun.append (.single (runMove_dispatch_before_target h hj))).append
        (runs_further_period h (j + 1))⟩
    rw [← hinit, intervalMoves, Nat.add_sub_cancel, periods_succ]
    simp only [intervalMoves, List.append_assoc, Nat.add_sub_cancel]

/-- The state at the end of an interval is the invocation of the callback in the state it began in. -/
theorem invokeCallback_eq_intervalEnd (s : State) (t : TimerId) (src : Src) :
    { invokeCallback s t src with agenda := [] } = intervalEnd s t src := by
  unfold invokeCallback intervalEnd
  dsimp only
  split <;> rfl

/-- A proper part of a list that ends in `x` is a part of what comes before `x`. -/
theorem exists_eq_append_of_ne_nil {α : Type} {init part rest : List α} {x : α}
    (h : init ++ [x] = part ++ rest) (hrest : rest ≠ []) : ∃ more, init = part ++ more := by
  rw [← List.dropLast_append_getLast hrest, ← List.append_assoc] at h
  exact ⟨_, (List.append_inj' h rfl).1⟩

/-- An interval is exact: its steps end in the state they began in, but for one invocation of the callback,
and every proper part of them outputs nothing (60_exceptions.md R145). -/
theorem interval_exact (h : IntervalStart s t src) {moves : List Move}
    (hmoves : moves = intervalMoves t src (firstEvent src t (s.timers.get t))
      (stepsTo (cap t) 0 (eventCount (s.timers.get t) src)) (s.timers.get t).tickCount.toNat) :
    offered s moves = .next (intervalEnd s t src)
      ∧ ∀ part rest, moves = part ++ rest → rest ≠ [] →
          ∃ s', offered s part = .next s' ∧ s'.obs = s.obs := by
  obtain ⟨j, hj⟩ := Nat.exists_eq_add_of_le' h.target
  obtain ⟨init, hinit, hrun⟩ := runs_but_last_dispatch h (j := j) (by omega)
  rw [hj, hinit] at hmoves
  subst hmoves
  constructor
  · rw [offered_of_runs (hrun.append (.single (runMove_dispatch_at_target h hj.symm))),
      invokeCallback_eq_intervalEnd]
  · intro part rest hsplit hrest
    obtain ⟨more, rfl⟩ := exists_eq_append_of_ne_nil hsplit hrest
    obtain ⟨s', hpart, hobs⟩ := hrun.silent_part rfl
    exact ⟨_, offered_of_runs hpart, hobs⟩

end Interval

/-! ### The ticks of an interval -/

theorem tickTotal_append (a b : List Move) : tickTotal (a ++ b) = tickTotal a + tickTotal b :=
  List.countP_append

theorem tickTotal_ticksOf (t : TimerId) (k : Nat) : tickTotal (ticksOf t k) = k := by
  simp [tickTotal, ticksOf, List.countP_replicate]

theorem tickTotal_dispatch (t : TimerId) (src : Src) : tickTotal [.dispatch t src] = 0 := rfl

theorem tickTotal_periods (t : TimerId) (src : Src) (period n : Nat) :
    tickTotal (periods t src period n) = n * period := by
  induction n with
  | zero => exact (Nat.zero_mul period).symm
  | succ n ih =>
    rw [periods_succ, tickTotal_append, tickTotal_append, ih, tickTotal_ticksOf, tickTotal_dispatch,
      Nat.succ_mul, Nat.add_zero]

theorem tickTotal_intervalMoves (t : TimerId) (src : Src) (first period n : Nat) :
    tickTotal (intervalMoves t src first period n) = first + (n - 1) * period := by
  rw [intervalMoves, tickTotal_append, tickTotal_append, tickTotal_ticksOf, tickTotal_dispatch,
    tickTotal_periods, Nat.add_zero]

/-- Settles O33: the interval of the overflow source, whose first period starts at the reload value. -/
theorem normalIntervalIsExact : Obligations.NormalIntervalIsExact := by
  intro s t n hserv hwgm hie hpend hcnt hpre hcur hn hone moves hmoves
  rw [← cap_eq_capacity] at hpre
  have hstart : IntervalStart s t .ovf :=
    ⟨hserv, hwgm, hie, hpend, hcur, hn ▸ hone, hcnt, hcnt ▸ hpre, cap_pos t⟩
  have hfirst : firstEvent .ovf t (s.timers.get t) = cap t - (s.timers.get t).preload.toNat := by
    rw [firstEvent, hcnt]
    rfl
  have hmoves : moves = intervalMoves t .ovf (cap t - (s.timers.get t).preload.toNat) (cap t) n := by
    rw [hmoves, cap_eq_capacity]
    rfl
  refine ⟨?_, interval_exact hstart ?_⟩
  · obtain ⟨m, rfl⟩ := Nat.exists_eq_add_of_le' hone
    rw [hmoves, tickTotal_intervalMoves, ← cap_eq_capacity, Nat.add_sub_cancel, Nat.succ_mul]
    omega
  · rw [hmoves, hfirst, hn]
    rfl

/-- Settles O34: the interval of the compare-match source, whose periods are all alike. -/
theorem ctcIntervalIsExact : Obligations.CtcIntervalIsExact := by
  intro s t d n hserv hwgm hie hpend hcnt hocr hone hd hcur hn hn1 moves hmoves
  rw [← cap_eq_capacity] at hd
  have hstart : IntervalStart s t .cmp :=
    ⟨hserv, hwgm, hie, hpend, hcur, hn ▸ hn1, hcnt, hcnt ▸ cap_pos t, lt_of_eq_of_lt hocr hd⟩
  have hperiod : stepsTo (cap t) 0 d = d := if_pos hone
  have hmoves : moves = intervalMoves t .cmp d d n := by
    obtain ⟨m, rfl⟩ := Nat.exists_eq_add_of_le' hn1
    rw [hmoves, periods, List.replicate_succ, List.flatten_cons]
    rfl
  refine ⟨?_, interval_exact hstart ?_⟩
  · rw [hmoves, tickTotal_intervalMoves]
    obtain ⟨m, rfl⟩ := Nat.exists_eq_add_of_le' hn1
    rw [Nat.add_sub_cancel, Nat.mul_succ, Nat.mul_comm d m, Nat.add_comm]
  · have hevent : eventCount (s.timers.get t) .cmp = d := hocr
    rw [hmoves, firstEvent, hcnt, hevent, hn]
    exact congrArg₂ (intervalMoves t .cmp · · n) hperiod.symm hperiod.symm

end Sys2Proof.Machine
end

section
/-! The initialisation sequence from reset (70_reset_and_hazards.md R151). -/

namespace Sys2Proof.Machine

open Sys2Proof.Claims

/-! ### Commands answered `(Ok, 0)` -/

/-- The state with `n` answers `(Ok, 0)` more. -/
def acknowledged (s : State) (n : Nat) : State :=
  { s with obs := s.obs ++ List.replicate n (.response .ok 0) }

@[simp] theorem acknowledged_timers (s : State) (n : Nat) : (acknowledged s n).timers = s.timers := rfl
@[simp] theorem acknowledged_config (s : State) (n : Nat) : (acknowledged s n).config = s.config := rfl

theorem setTimer_acknowledged (s : State) (id : TimerId) (r : Timer) (n : Nat) :
    setTimer (acknowledged s n) id r = acknowledged (setTimer s id r) n := rfl

theorem emit_acknowledged (s : State) (n : Nat) :
    emit (acknowledged s n) (.response .ok 0) = acknowledged s (n + 1) := by
  simp [emit, acknowledged, List.replicate_succ']

/-- `TINIT` does not read the outputs (10_state.md R41). -/
theorem initialise_acknowledged (s : State) (n : Nat) :
    initialise (acknowledged s n) = acknowledged (initialise s) n := rfl

/-- An accepted command that writes timer `id`, after other writes on it, adds one answer and its own
write. -/
theorem runMove_encode_of_write {i : Instr} {s : State} {id : TimerId} {r r' : Timer} {n : Nat}
    (h : exec i (acknowledged (setTimer s id r) n) =
      accept 0 (setTimer (acknowledged (setTimer s id r) n) id r')) :
    runMove (.cmd (encode i)) (acknowledged (setTimer s id r) n) =
      .next (acknowledged (setTimer s id r') (n + 1)) := by
  rw [runMove_cmd_of_decode (decodeOfEncode i), h, accept, setTimer_acknowledged, setTimer_setTimer,
    emit_acknowledged]

/-- Every step of a run keeps the invariant. -/
theorem Runs.inv {s s' : State} {moves : List Move} (h : Runs s moves s') (hinv : Inv s) : Inv s' := by
  induction h with
  | nil => exact hinv
  | cons hm _ ih => exact ih (inv_runMove hinv hm)

/-! ### The operands -/

/-- The tick time of a selection in the numbers of R18: it fits the 21 bits of the field (10_state.md
R19). -/
theorem toNat_ttnumOf {p : Presc} (hp : p ≠ .off) :
    (ttnumOf p).toNat = divisorOfCode (prescNumber p) * 1000 := by
  cases p with
  | off => exact absurd rfl hp
  | _ => rfl

/-- A mode enables its own source (10_state.md R31), in the numbers of its operand. -/
theorem enables_iff_of_modeOperand {m : BitVec 2} {md : Mode} (h : modeOperand m = some md) :
    (ovfEnableOf md = true ↔ m.toNat = 0) ∧ (cmpEnableOf md = true ↔ m.toNat = 1) := by
  obtain rfl := modeOperand_eq_some.mp h
  cases md <;> decide

/-! ### The sequence -/

/-- `TINIT` leaves the tick time as `TPRESC` has just computed it (40_calibration.md R80, R81). -/
theorem recalibrate_withPresc (c : Config) (t : TimerId) (r : Timer) (p : Presc) :
    recalibrate c t (withPresc r p) = withPresc r p := by
  cases h : c.isEnabled t
  · exact recalibrate_of_disabled _ h
  · exact recalibrate_of_enabled _ h

/-- `TINIT` recalibrates each timer by itself (10_state.md R35). -/
theorem initialise_setTimer (s : State) (t : TimerId) (r : Timer) :
    initialise (setTimer s t r) = setTimer (initialise s) t (recalibrate s.config t r) := by
  cases t <;> rfl

/-- The timer that the initialisation sequence leaves. -/
def broughtUp (r : Timer) (p : Presc) (fn ctx : Half) (mode : Mode) (d : Decomposition) : Timer :=
  started (configured (withCallback (withPresc r p) fn ctx) mode d)

section Initialisation

variable {s : State} {t mode : BitVec 2} {id : TimerId} {r : Timer} {code : BitVec 8} {p : Presc}
  {ms fn ctx : Half} {md : Mode} {d : Decomposition}

/-- The initialisation sequence with an accepted request, on a stopped timer, runs all its five commands:
`TPRESC` selects the divisor that `TSETTIME` needs, and `TSETTIME` leaves the timer configured, so that
`TSTART` is accepted (70_reset_and_hazards.md R151). -/
theorem runs_initialisation (ht : enabledTimer s.config t = some id) (hr : s.timers.get id = r)
    (hc : r.cs = .off) (hp : prescOperand code = some p) (hf : fn ≠ 0) (hm : modeOperand mode = some md)
    (hd : decompose s.config id md (ttnumOf p).toNat ms.toNat = some d) :
    Runs s
      [.cmd (encode (.tpresc t code)), .cmd (encode .tinit), .cmd (encode (.tsetcb t fn ctx)),
        .cmd (encode (.tsettime t mode ms)), .cmd (encode (.tstart t))]
      (acknowledged (setTimer (initialise s) id (broughtUp r p fn ctx md d)) 5) := by
  have hpresc : runMove (.cmd (encode (.tpresc t code))) s =
      .next (acknowledged (setTimer s id (withPresc r p)) 1) := by
    rw [runMove_cmd_of_decode (decodeOfEncode _), exec_tpresc_of_stopped ht hp (hr ▸ hc), hr]
    rfl
  have hinit : runMove (.cmd (encode .tinit)) (acknowledged (setTimer s id (withPresc r p)) 1) =
      .next (acknowledged (setTimer (initialise s) id (withPresc r p)) 2) := by
    rw [runMove_cmd_of_decode (decodeOfEncode _), exec_tinit, initialise_acknowledged,
      initialise_setTimer, recalibrate_withPresc, accept, emit_acknowledged]
  have hcallback := exec_tsetcb_of_function (ctx := ctx)
    (s := acknowledged (setTimer (initialise s) id (withPresc r p)) 2) ht hf
  have hset := exec_tsettime_of_stopped (d := d)
    (s := acknowledged (setTimer (initialise s) id (withCallback (withPresc r p) fn ctx)) 3) ht hm
    (by simpa using (prescOperand_eq_some.mp hp).1) (by simpa using hd) (by simpa using hc)
  have hstart := exec_tstart_of_configured
    (s := acknowledged
      (setTimer (initialise s) id (configured (withCallback (withPresc r p) fn ctx) md d)) 4)
    ht (by simp)
  simp only [acknowledged_timers, setTimer_timers, get_set_same] at hcallback hset hstart
  exact .cons hpresc <| .cons hinit <| .cons (runMove_encode_of_write hcallback) <|
    .cons (runMove_encode_of_write hset) <| .single (runMove_encode_of_write hstart)

end Initialisation

/-- Settles O43: the run of the sequence, whose target is not 0 by the invariant. -/
theorem initialisationSequence : Obligations.InitialisationSequence := by
  intro c t mode id code ms fn ctx hnames hone hfive hmode hf haccept
  have ht := enabledTimer_eq_some_iff_names.mpr hnames
  have hpresc : prescOperand code ≠ none := mt prescOperand_eq_none.mp (by omega)
  have hmodes : modeOperand mode ≠ none := mt modeOperand_eq_none.mp (by omega)
  obtain ⟨p, hp⟩ := Option.ne_none_iff_exists'.mp hpresc
  obtain ⟨md, hm⟩ := Option.ne_none_iff_exists'.mp hmodes
  have hcode := toNat_of_prescOperand hp
  rw [← rawTicks_eq_rawOf hm, ← hcode, ← toNat_ttnumOf (prescOperand_eq_some.mp hp).1] at haccept
  have hrun := runs_initialisation (s := State.resetWith c) (ctx := ctx) ht (resetWith_get c id) rfl hp hf
    hm (decompose_of_not_rejected haccept)
  have htimer := (hrun.inv (invariantAtReset c)).timers id
  refine ⟨_, offered_of_runs hrun, rfl, rfl, rfl, rfl, ?_⟩
  simp only [acknowledged_timers, setTimer_timers, get_set_same] at htimer ⊢
  exact ⟨rfl, hcode, rfl, rfl, htimer.configured_target (fun h => by cases h),
    enables_iff_of_modeOperand hm⟩

end Sys2Proof.Machine
end
